-- ==== Sys2Proof/Word.lean ====
section
/-! DEFINITION. The widths of goscon-core (00_scope.md R4, R7, R9): 64-bit operands and results, 32-bit words of the
tag unit, the 6-bit offset of a bus transaction and its 7-bit header. -/

namespace Sys2Proof

/-- An operand, a result, a register slot or a command word: 64 bits, unsigned (R4). -/
abbrev Word := BitVec 64

/-- A word of the compression-tag unit: 32 bits, unsigned (R4, R41). -/
abbrev Half := BitVec 32

/-- The byte offset `addr[5:0]` of a bus transaction in the register window (R60, R81). -/
abbrev Offset := BitVec 6

/-- The 7-bit header `we, addr[5:0]` of a bus transaction, `we` in bit 6 (R81). -/
abbrev Header := BitVec 7

end Sys2Proof
end

