-- ==== Sys2Proof/Config.lean ====
section
/-! DEFINITION. What is fixed for one block: the modulus, and the parameters the spec leaves open (00_scope.md R3, R8).
The open parameters are opaque constants, so that a statement holds for every value they may have. -/

namespace Sys2Proof.Config

/-- The modulus `P = 2^64 - 59`, a constant of the hardware (R3, R35). -/
def modulus : Word := 0xFFFFFFFFFFFFFFC5#64

/-- `LAT_MAX - 1`, with `LAT_MAX` the finite bound on LATENCY (R8). Log 3. -/
opaque latMaxPred : Nat

/-- `LAT_MAX`, at least 1 (R8). -/
def latMax : Nat := latMaxPred + 1

/-- The free choice behind LATENCY: any function of the latched op and operands (R8, R212). Log 3. -/
opaque latencyChoice : BitVec 2 → Word → Word → Nat

/-- `LATENCY(op, a, b)`, with `1 <= LATENCY <= LAT_MAX` (R8). Every function within those bounds is this one for some
`latencyChoice`. -/
def latency (op : BitVec 2) (a b : Word) : Nat := latencyChoice op a b % latMax + 1

/-- `BASE / 64`: the platform's choice of where the window lies (R8). Log 9. -/
opaque basePage : Nat

/-- `BASE`, the host byte address of the register window, a multiple of 64 (R8). -/
def base : Nat := 64 * basePage

/-- How many iterations or rounds the unit in use performs in the given cycle of a command: the schedule R114 and R141
leave to the implementation. No result depends on it. Log 7. -/
opaque unitSteps : BitVec 2 → Word → Word → Nat → Nat

end Sys2Proof.Config
end

