-- ==== Sys2Proof/Syntax.lean ====
section
/-! DEFINITION. The instructions of goscon-core (opcode_table.json) and the two formats that carry them
(30_encoding.md R80 to R83). -/

namespace Sys2Proof

/-- The eight register slots of the window, in the order of their slot number `addr[5:3]` (R61, R81). -/
inductive Slot where
  | opa | opb | cmd | status | result | ctrl | modulus | reserved
deriving DecidableEq, Repr

/-- Format BUS: the request fields of one host transaction, 71 bits in all (R81, R88). -/
structure BusRequest where
  /-- 0 = read, 1 = write. -/
  we : Bool
  /-- Byte offset in the window. -/
  addr : Offset
  /-- The value written; ignored by a read. -/
  wdata : Word
deriving DecidableEq, Repr

/-- One constructor per row of opcode_table.json. The operands of a command are the OPA and OPB registers, so a command
has no field (R84). -/
inductive Instr where
  /-- BUS_READ (R150). -/
  | busRead (addr : Offset)
  /-- BUS_WRITE (R151). -/
  | busWrite (addr : Offset) (wdata : Word)
  /-- MULMOD (R106). -/
  | mulmod
  /-- POWMOD (R115). -/
  | powmod
  /-- TAG (R139). -/
  | tag
deriving DecidableEq, Repr

/-- What a decoder of the block is given: a request at the port, or the 64-bit word of a write to CMD (R80). -/
inductive Code where
  | bus (r : BusRequest)
  | cmd (w : Word)
deriving DecidableEq, Repr

end Sys2Proof
end

