-- ==== Sys2Proof/WellFormed.lean ====
section
/-! DEFINITION. Which instruction terms are instructions of the block: the offset of a BUS_READ or a BUS_WRITE is a
multiple of 8 (R64, R150, R151). The three commands have no field to check. -/

namespace Sys2Proof

/-- `addr[2:0] = 0` (R64). -/
def aligned (addr : Offset) : Bool := addr.extractLsb' 0 3 == 0#3

/-- A term is an instruction of the block. A misaligned transaction is neither a BUS_READ nor a BUS_WRITE (R150, R151). -/
def wellFormed : Instr → Bool
  | .busRead addr => aligned addr
  | .busWrite addr _ => aligned addr
  | .mulmod => true
  | .powmod => true
  | .tag => true

end Sys2Proof
end

