-- ==== Sys2Proof/Decode.lean ====
section
/-! DEFINITION. The decoder of the two formats (30_encoding.md R85), total, rejecting by name; the encoder written from
the same tables; the header of a transaction (R81, R96); and the words of opcode_table.json. -/

namespace Sys2Proof

/-- Why a code is no instruction. -/
inductive DecodeError where
  /-- `addr[2:0] != 0` (R64): the block answers with a bus error. -/
  | misaligned
  /-- `w[63:2] != 0` or `w[1:0] = 3` (R86): the block answers with the error completion ILLEGAL_CMD. -/
  | illegalCmd
deriving DecidableEq, Repr

/-- The slot that `addr[5:3]` selects (R81). -/
def slotOf (addr : Offset) : Slot :=
  match (addr.extractLsb' 3 3).toNat with
  | 0 => .opa
  | 1 => .opb
  | 2 => .cmd
  | 3 => .status
  | 4 => .result
  | 5 => .ctrl
  | 6 => .modulus
  | _ => .reserved

/-- The byte offset of a slot (R20, R61). -/
def offsetOf : Slot → Offset
  | .opa => 0x00#6
  | .opb => 0x08#6
  | .cmd => 0x10#6
  | .status => 0x18#6
  | .result => 0x20#6
  | .ctrl => 0x28#6
  | .modulus => 0x30#6
  | .reserved => 0x38#6

/-- `decode_bus` of R85. -/
def decodeBus (r : BusRequest) : Except DecodeError Instr :=
  if !aligned r.addr then .error .misaligned
  else if r.we then .ok (.busWrite r.addr r.wdata)
  else .ok (.busRead r.addr)

/-- The OP field `w[1:0]` of a command word (R82). -/
def opField (w : Word) : BitVec 2 := w.extractLsb' 0 2

/-- The RSVD field `w[63:2]` of a command word (R82). -/
def rsvdField (w : Word) : BitVec 62 := w.extractLsb' 2 62

/-- `decode_cmd` of R85. -/
def decodeCmd (w : Word) : Except DecodeError Instr :=
  if rsvdField w ≠ 0#62 then .error .illegalCmd
  else if opField w = 0#2 then .ok .mulmod
  else if opField w = 1#2 then .ok .powmod
  else if opField w = 2#2 then .ok .tag
  else .error .illegalCmd

/-- The decoder of both formats (R80, R85). -/
def decode : Code → Except DecodeError Instr
  | .bus r => decodeBus r
  | .cmd w => decodeCmd w

/-- The MULMOD command word (R96). -/
def mulmodWord : Word := 0x0000000000000000#64
/-- The POWMOD command word (R96). -/
def powmodWord : Word := 0x0000000000000001#64
/-- The TAG command word (R96). -/
def tagWord : Word := 0x0000000000000002#64

/-- The code of an instruction: a transaction for a row of format BUS (R89), a command word for a row of format CMD (R96). -/
def encode : Instr → Code
  | .busRead addr => .bus ⟨false, addr, 0#64⟩
  | .busWrite addr wdata => .bus ⟨true, addr, wdata⟩
  | .mulmod => .cmd mulmodWord
  | .powmod => .cmd powmodWord
  | .tag => .cmd tagWord

/-- The 7-bit header `we, addr[5:0]` of a request (R81). -/
def headerOf (r : BusRequest) : Header := BitVec.ofBool r.we ++ r.addr

/-- The request with a given header and write data (R81). -/
def requestOf (h : Header) (wdata : Word) : BusRequest := ⟨h.getLsbD 6, h.extractLsb' 0 6, wdata⟩

/-- The request that writes a command word to CMD (R24, R154). -/
def cmdRequest (w : Word) : BusRequest := ⟨true, offsetOf .cmd, w⟩

/-- The code a row of opcode_table.json stands for, from its bits as the table numbers them: 7 bits (one byte) are a
transaction's header, with write data 0; 64 bits are a command word. Log 12. -/
def codeOfTableWord (nbits w : Nat) : Option Code :=
  if nbits = 7 ∨ nbits = 8 then
    if w < 128 then some (.bus (requestOf (BitVec.ofNat 7 w) 0#64)) else none
  else if nbits = 64 then
    if w < 2 ^ 64 then some (.cmd (BitVec.ofNat 64 w)) else none
  else none

/-- The instruction the decoder reads from a row's bits. -/
def decodeTableWord (nbits w : Nat) : Option Instr :=
  match codeOfTableWord nbits w with
  | some c =>
    match decode c with
    | .ok i => some i
    | .error _ => none
  | none => none

/-- The transaction that presents a code at the port: itself, or the CMD write that carries a command word. -/
def requestOfCode : Code → BusRequest
  | .bus r => r
  | .cmd w => cmdRequest w

end Sys2Proof
end

