-- ==== Sys2Proof/Machine/State.lean ====
section
/-! DEFINITION. The state of goscon-core (10_state.md), the reasons a step can stop, and the state after reset (R43). -/

namespace Sys2Proof.Machine

/-- Why the machine stops. -/
inductive Fault where
  /-- Raised by a completion with `int.OP = 3`, which R160 says cannot occur and to which it gives no effect. No run
  from reset reaches it (R44 item 5). Safe: the model stops where the spec has no machine. Log 5. -/
  | reservedOpInFlight
deriving DecidableEq, Repr

/-- Why a step is given no meaning. -/
inductive Refusal where
  /-- Raised by `exec` for an instruction without a meaning. No arm of this model answers with it. Safe. -/
  | notModelled (mnemonic : String)
  /-- Raised by a completion of POWMOD with `int.B = 0`: `powmod_alg(a, 0)` is not defined (R112, U1). The accept check
  EXP_ZERO keeps every run from reset away from it (R160). Safe. Log 6. -/
  | powmodExponentZero
deriving DecidableEq, Repr

/-- The causes of an error completion (R181). -/
inductive ErrCode where
  | illegalCmd | operandRange | expZero
deriving DecidableEq, Repr

/-- The response fields of a transaction, `bus_rdata` and `bus_err` (R81, R200). -/
structure Response where
  rdata : Word
  err : Bool
deriving DecidableEq, Repr

/-- The input ports of one clock cycle (R200): `rst`, and the request presented if `bus_valid = 1`. -/
structure PortCycle where
  rst : Bool
  req : Option BusRequest
deriving DecidableEq, Repr

/-- The loop variables of the multiplier (R39, R101). -/
structure MulLoop where
  m : Word
  a : Word
  b : Word
deriving DecidableEq, Repr

/-- The four working registers of the tag unit (R41). -/
structure TagRegs where
  a : Half
  b : Half
  c : Half
  d : Half
deriving DecidableEq, Repr

/-- The working state of the unit in use (R39, R41): not readable by the host, started at an accept, discarded at
completion (R40). Log 7. -/
inductive Work where
  /-- No operation in progress. -/
  | idle
  /-- A MULMOD: the loop variables of R101. -/
  | mul (l : MulLoop)
  /-- A POWMOD: the partial power `t`, and how many bits of the exponent are still to be processed, so that bit
  `left - 1` is the next (R39, R114). -/
  | pow (t : Word) (left : Nat)
  /-- A TAG: the working registers and the number of the next round, 64 after the last (R41). -/
  | tag (regs : TagRegs) (i : Nat)
deriving DecidableEq, Repr

/-- The whole state of the block. The last three fields are the model's own (INVENTORY.md). -/
structure State where
  /-- OPA (R22). -/
  opa : Word
  /-- OPB (R23). -/
  opb : Word
  /-- STATUS.DONE (R27). -/
  done : Bool
  /-- STATUS.ERR (R28). -/
  err : Bool
  /-- STATUS.OVR (R29). -/
  ovr : Bool
  /-- STATUS.ERRCODE (R30). -/
  errcode : BitVec 4
  /-- STATUS.LASTOP (R31). -/
  lastop : BitVec 2
  /-- RESULT (R33). -/
  result : Word
  /-- CTRL.IE (R34). -/
  ie : Bool
  /-- int.PEND (R38), which is also STATUS.BUSY (R26). Log 10. -/
  pend : Bool
  /-- int.OP (R38). -/
  op : BitVec 2
  /-- int.A (R38). -/
  a : Word
  /-- int.B (R38). -/
  b : Word
  /-- The working state of the unit in use (R39, R41). -/
  work : Work
  /-- Clock cycles since the accept of the command in flight (R160, R212). Log 3. -/
  elapsed : Nat
  /-- The port samples of the cycles to come, the next first; an empty list is a cycle with nothing presented. Log 2. -/
  inbox : List PortCycle
  /-- The response outputs of the cycle last performed (R200). Log 4. -/
  resp : Response
deriving DecidableEq, Repr

/-- The state after reset (R43, R203), with no port sample listed. -/
def State.reset : State where
  opa := 0#64
  opb := 0#64
  done := false
  err := false
  ovr := false
  errcode := 0#4
  lastop := 0#2
  result := 0#64
  ie := false
  pend := false
  op := 0#2
  a := 0#64
  b := 0#64
  work := .idle
  elapsed := 0
  inbox := []
  resp := ⟨0#64, false⟩

end Sys2Proof.Machine
end

