-- ==== Sys2Proof/Machine/Flags.lean ====
section
/-! DEFINITION. STATUS and CTRL: how they read (R25, R32, R34), every rule that sets or clears a field of them
(R156, R158, R159, R160, R182, R183), and the interrupt output (R42, R185). -/

namespace Sys2Proof.Machine

/-- STATUS as it reads: LASTOP, ERRCODE, OVR, ERR, DONE, BUSY, with BUSY at bit 0 and bits 63:10 zero (R25, R32). -/
def statusWord (s : State) : Word :=
  (s.lastop ++ s.errcode ++ BitVec.ofBool s.ovr ++ BitVec.ofBool s.err ++ BitVec.ofBool s.done
    ++ BitVec.ofBool s.pend).setWidth 64

/-- CTRL as it reads: IE at bit 0, the other bits zero (R34). -/
def ctrlWord (s : State) : Word := (BitVec.ofBool s.ie).setWidth 64

/-- The interrupt output, a level (R42, R185). -/
def irq (s : State) : Bool := s.ie && s.done

/-- The code of an error completion (R181). -/
def errCodeBits : ErrCode → BitVec 4
  | .illegalCmd => 1#4
  | .operandRange => 2#4
  | .expZero => 3#4

/-- The bookkeeping of an accept (R156): DONE, ERR and ERRCODE cleared, LASTOP set; OVR is kept. -/
def bookkeep (w : Word) (s : State) : State :=
  { s with done := false, err := false, errcode := 0#4, lastop := opField w }

/-- The flags of an error completion (R183). -/
def setErrorFlags (c : ErrCode) (s : State) : State :=
  { s with done := true, err := true, errcode := errCodeBits c }

/-- The flags of a successful completion (R160), BUSY apart. -/
def setDoneFlags (s : State) : State :=
  { s with done := true, err := false, errcode := 0#4 }

/-- The flag of an overrun (R154, R182). -/
def setOverrun (s : State) : State := { s with ovr := true }

/-- `write_STATUS(v)` (R158): write 1 to clear on bits 1 to 3; clearing ERR clears ERRCODE. -/
def writeStatus (v : Word) (s : State) : State :=
  { s with
    done := s.done && !v.getLsbD 1
    err := s.err && !v.getLsbD 2
    errcode := if v.getLsbD 2 then 0#4 else s.errcode
    ovr := s.ovr && !v.getLsbD 3 }

/-- `write_CTRL(v)` (R159). -/
def writeCtrl (v : Word) (s : State) : State := { s with ie := v.getLsbD 0 }

end Sys2Proof.Machine
end

