-- ==== Sys2Proof/Machine/Operands.lean ====
section
/-! DEFINITION. Every operand form of the spec: the register slots and their bytes (R20, R62, R150), the window at BASE
(R60), the latched operands of a command (R84, R157), the domain checks (R106, R115), the canonical reduction of a base
(R110), the bit counts of R10, and the 32-bit halves of the tag unit (R131). -/

namespace Sys2Proof.Machine

/-- The value a read of a slot returns (R150). -/
def readSlot : Slot → State → Word
  | .opa, s => s.opa
  | .opb, s => s.opb
  | .cmd, _ => 0#64
  | .status, s => statusWord s
  | .result, s => s.result
  | .ctrl, s => ctrlWord s
  | .modulus, _ => Config.modulus
  | .reserved, _ => 0#64

/-- Byte `k` of a register value, bits `8k+7 : 8k` (R62). -/
def byteOf (v : Word) (k : Nat) : BitVec 8 := v.extractLsb' (8 * k) 8

/-- One byte of the register window, at its offset (R62). -/
def windowByte (s : State) (o : Offset) : BitVec 8 :=
  byteOf (readSlot (slotOf o) s) (o.extractLsb' 0 3).toNat

/-- The host byte address of an offset (R60, R163). -/
def hostAddress (o : Offset) : Nat := Config.base + o.toNat

/-- The offset `host_address - BASE` of an address inside the window, which the platform decodes (R60). -/
def windowOffset (address : Nat) : Option Offset :=
  if Config.base ≤ address ∧ address < Config.base + 64 then some (BitVec.ofNat 6 (address - Config.base)) else none

/-- The operand check of MULMOD: OPA or OPB is outside `[0, P)` (R106, R156). -/
def outOfRange (s : State) : Bool := decide (Config.modulus ≤ s.opa) || decide (Config.modulus ≤ s.opb)

/-- The operand check of POWMOD: OPB is 0 (R115, R156). -/
def zeroExponent (s : State) : Bool := s.opb == 0#64

/-- The latch of the op and the operands of a command that passed its checks (R157), PEND apart. -/
def latchOperands (op : BitVec 2) (s : State) : State := { s with op := op, a := s.opa, b := s.opb }

/-- The canonical reduction of a base into `[0, P)`: for 64 bits, `a - P` when `a >= P` (R110). -/
def canonical (a : Word) : Word := if Config.modulus ≤ a then a - Config.modulus else a

/-- `bitlen(b)` (R10). -/
def bitlen (b : Word) : Nat := if b = 0#64 then 0 else Nat.log2 b.toNat + 1

/-- `popcount(b)` (R10). -/
def popcount (b : Word) : Nat := ((List.range 64).map fun j => (b.getLsbD j).toNat).sum

/-- Bits 63:32 of an operand (R131). -/
def high (x : Word) : Half := x.extractLsb' 32 32

/-- Bits 31:0 of an operand (R131). -/
def low (x : Word) : Half := x.extractLsb' 0 32

end Sys2Proof.Machine
end

