-- ==== Sys2Proof/Machine/CompressionTag.lean ====
section
/-! DEFINITION. The compression-tag unit as a function (41_compression_tag.md R131 to R140). The constants, boolean
functions, index schedule, rotation order, round step and fold are those the spec supplies from MD5 and its own
decisions D21 to D23. Log 8. -/

namespace Sys2Proof.Machine

/-- The input word `W[j]` of operands x and y (R131). -/
def inputWord (x y : Word) (j : Nat) : Half :=
  match j % 4 with
  | 0 => high x
  | 1 => low x
  | 2 => high y
  | _ => low y

/-- The initial values of the working registers (R132). -/
def tagInit : TagRegs := ⟨0x67452301#32, 0xEFCDAB89#32, 0x98BADCFE#32, 0x10325476#32⟩

/-- Round constants 0 to 15 (R133). -/
def roundConstants0 : List Half :=
  [0xD76AA478#32, 0xE8C7B756#32, 0x242070DB#32, 0xC1BDCEEE#32,
   0xF57C0FAF#32, 0x4787C62A#32, 0xA8304613#32, 0xFD469501#32,
   0x698098D8#32, 0x8B44F7AF#32, 0xFFFF5BB1#32, 0x895CD7BE#32,
   0x6B901122#32, 0xFD987193#32, 0xA679438E#32, 0x49B40821#32]

/-- Round constants 16 to 31 (R133). -/
def roundConstants1 : List Half :=
  [0xF61E2562#32, 0xC040B340#32, 0x265E5A51#32, 0xE9B6C7AA#32,
   0xD62F105D#32, 0x02441453#32, 0xD8A1E681#32, 0xE7D3FBC8#32,
   0x21E1CDE6#32, 0xC33707D6#32, 0xF4D50D87#32, 0x455A14ED#32,
   0xA9E3E905#32, 0xFCEFA3F8#32, 0x676F02D9#32, 0x8D2A4C8A#32]

/-- Round constants 32 to 47 (R133). -/
def roundConstants2 : List Half :=
  [0xFFFA3942#32, 0x8771F681#32, 0x6D9D6122#32, 0xFDE5380C#32,
   0xA4BEEA44#32, 0x4BDECFA9#32, 0xF6BB4B60#32, 0xBEBFBC70#32,
   0x289B7EC6#32, 0xEAA127FA#32, 0xD4EF3085#32, 0x04881D05#32,
   0xD9D4D039#32, 0xE6DB99E5#32, 0x1FA27CF8#32, 0xC4AC5665#32]

/-- Round constants 48 to 63 (R133). -/
def roundConstants3 : List Half :=
  [0xF4292244#32, 0x432AFF97#32, 0xAB9423A7#32, 0xFC93A039#32,
   0x655B59C3#32, 0x8F0CCC92#32, 0xFFEFF47D#32, 0x85845DD1#32,
   0x6FA87E4F#32, 0xFE2CE6E0#32, 0xA3014314#32, 0x4E0811A1#32,
   0xF7537E82#32, 0xBD3AF235#32, 0x2AD7D2BB#32, 0xEB86D391#32]

/-- The round constant `K[i]` (R133). -/
def roundConstant (i : Nat) : Half :=
  (if i < 16 then roundConstants0
    else if i < 32 then roundConstants1
    else if i < 48 then roundConstants2
    else roundConstants3).getD (i % 16) 0#32

/-- The rotation amount `S[i]` (R134). -/
def rotationAmount (i : Nat) : Nat :=
  (if i < 16 then [7, 12, 17, 22]
    else if i < 32 then [5, 9, 14, 20]
    else if i < 48 then [4, 11, 16, 23]
    else [6, 10, 15, 21]).getD (i % 4) 0

/-- The boolean function of round i, of the registers B, C, D (R135). -/
def roundFunction (i : Nat) (b c d : Half) : Half :=
  if i < 16 then (b &&& c) ||| (~~~b &&& d)
  else if i < 32 then (d &&& b) ||| (~~~d &&& c)
  else if i < 48 then b ^^^ c ^^^ d
  else c ^^^ (b ||| ~~~d)

/-- The index `g(i)` of the input word of round i (R136). -/
def wordIndex (i : Nat) : Nat :=
  if i < 16 then i
  else if i < 32 then (5 * i + 1) % 16
  else if i < 48 then (3 * i + 5) % 16
  else (7 * i) % 16

/-- `rotl32(x, s)` (R10). -/
def rotl32 (x : Half) (s : Nat) : Half := (x <<< s) ||| (x >>> (32 - s))

/-- Round i (R137). -/
def tagRound (x y : Word) (i : Nat) (r : TagRegs) : TagRegs :=
  let mixed := r.a + roundFunction i r.b r.c r.d + roundConstant i + inputWord x y (wordIndex i)
  ⟨r.d, r.b + rotl32 mixed (rotationAmount i), r.b, r.c⟩

/-- `n` rounds in order, the first of them round i (R137, R140). -/
def tagRounds (x y : Word) : Nat → Nat → TagRegs → TagRegs
  | 0, _, r => r
  | n + 1, i, r => tagRounds x y n (i + 1) (tagRound x y i r)

/-- The output fold: `A ^ B` in the high half, `C ^ D` in the low half (R138). -/
def tagFold (r : TagRegs) : Word := (r.a ^^^ r.b) ++ (r.c ^^^ r.d)

/-- `tag_alg(x, y)` (R140). -/
def tagAlg (x y : Word) : Word := tagFold (tagRounds x y 64 0 tagInit)

end Sys2Proof.Machine
end

