-- ==== Sys2Proof/Machine/ModularField.lean ====
section
/-! DEFINITION. The multiplier and the exponentiator as functions (40_modular_field.md R101, R110, R111, R114). -/

namespace Sys2Proof.Machine

/-- One iteration of the binary scan: conditional add, then double, then shift, in 64-bit arithmetic (R101). -/
def mulIter (l : MulLoop) : MulLoop where
  m := if l.b.getLsbD 0 then
      (if Config.modulus - l.a ≤ l.m then l.m - (Config.modulus - l.a) else l.m + l.a)
    else l.m
  a := if Config.modulus - l.a ≤ l.a then 2#64 * l.a - Config.modulus else 2#64 * l.a
  b := l.b >>> 1

/-- The scan while `b != 0` (R101), at most `n` iterations; 64 are enough for any b. -/
def mulLoop : Nat → MulLoop → MulLoop
  | 0, l => l
  | n + 1, l => if l.b = 0#64 then l else mulLoop n (mulIter l)

/-- `mulmod_alg(a, b)`, total on 64-bit operands (R101). -/
def mulmodAlg (a b : Word) : Word := (mulLoop 64 ⟨0#64, a, b⟩).m

/-- `pow_rec(a, b)` for `b >= 1`, by at most `n` halvings of b; 63 are enough for any b (R111, R112). -/
def powRec (a : Word) : Nat → Word → Word
  | 0, _ => a
  | n + 1, b =>
    if b = 1#64 then a
    else
      let t := powRec a n (b >>> 1)
      let t := mulmodAlg t t
      if b.getLsbD 0 then mulmodAlg t a else t

/-- `powmod_alg(a, b)` (R111); not defined for `b = 0` (R112). -/
def powmodAlg (a b : Word) : Option Word :=
  if b = 0#64 then none else some (powRec (canonical a) 63 b)

/-- One pass of the loop of `pow_iter`: square, and multiply once more by the base if bit `j` of b is 1 (R114). -/
def powBit (a b : Word) (j : Nat) (t : Word) : Word :=
  if b.getLsbD j then mulmodAlg (mulmodAlg t t) a else mulmodAlg t t

/-- The loop of `pow_iter` over bits `j - 1` down to 0 of b (R114). -/
def powBits (a b : Word) : Nat → Word → Word
  | 0, t => t
  | j + 1, t => powBits a b j (powBit a b j t)

/-- `pow_iter(a, b)` for `a < P` and `b >= 1` (R114). -/
def powIter (a b : Word) : Word := powBits a b (bitlen b - 1) a

end Sys2Proof.Machine
end

