-- ==== Sys2Proof/Machine/Work.lean ====
section
/-! DEFINITION. The working state of the units while a command is in flight (10_state.md R39 to R41): how an accept
starts it, one iteration or round of it, and what it arrives at. The number of iterations in a cycle is a parameter
(R114, R141). Log 7. -/

namespace Sys2Proof.Machine

/-- The working state at the start of an operation: the loop variables of R101, the partial power and bit position of
R114, or the initial values of R132. -/
def startWork (op : BitVec 2) (a b : Word) : Work :=
  match op.toNat with
  | 0 => .mul ⟨0#64, a, b⟩
  | 1 => .pow (canonical a) (bitlen b - 1)
  | 2 => .tag tagInit 0
  | _ => .idle

/-- One iteration of the scan (R101), one bit of the exponent (R114) or one round (R137); nothing once the operation
has no iteration left. -/
def workIter (a b : Word) : Work → Work
  | .idle => .idle
  | .mul l => .mul (if l.b = 0#64 then l else mulIter l)
  | .pow t 0 => .pow t 0
  | .pow t (j + 1) => .pow (powBit (canonical a) b j t) j
  | .tag r i => if i < 64 then .tag (tagRound a b i r) (i + 1) else .tag r i

/-- `n` iterations of the unit in use. -/
def workRun (a b : Word) : Nat → Work → Work
  | 0, w => w
  | n + 1, w => workRun a b n (workIter a b w)

/-- The result the unit arrives at from its working state: the iterations that are left, then the accumulator, the power
or the fold of R138 (R41). -/
def workResult (a b : Word) : Work → Option Word
  | .idle => none
  | .mul l => some (mulLoop 64 l).m
  | .pow t left => some (powBits (canonical a) b left t)
  | .tag r i => some (tagFold (tagRounds a b (64 - i) i r))

end Sys2Proof.Machine
end

