-- ==== Sys2Proof/Machine/Ops.lean ====
section
/-! DEFINITION. The operations the meanings share: the response of a transaction (R81, R184), the error completion and
its acknowledgement (R183, R188), the latch (R157), the issue of a command word (R154), the end of a command (R160) and
reset (R201). -/

namespace Sys2Proof.Machine

/-- Goes on from a next state; a fault or a refusal stays. -/
def andThen (o : Host.Outcome State Fault Refusal) (f : State → Host.Outcome State Fault Refusal) :
    Host.Outcome State Fault Refusal :=
  match o with
  | .next s => f s
  | .fault r => .fault r
  | .refused r => .refused r

/-- The response of an aligned transaction: `rdata`, and `err = 0` (R81, R150, R151). -/
def respond (rdata : Word) (s : State) : State := { s with resp := ⟨rdata, false⟩ }

/-- A bus error: `rdata = 0` and `err = 1`, no other change (R64, R184). -/
def busError (s : State) : State := { s with resp := ⟨0#64, true⟩ }

/-- The response outputs of a cycle with `bus_valid = 0` (R200). -/
def noResponse (s : State) : State := { s with resp := ⟨0#64, false⟩ }

/-- TAKING AN EXCEPTION, as far as this block has one: `raise NAME(ERRCODE = c)`, the error completion (R183). Nothing
is saved and control goes nowhere (R187). -/
def raise (c : ErrCode) (s : State) : State := setErrorFlags c s

/-- THE RETURN from it: the host acknowledges a completion by writing 1 to STATUS bits 1 and 2 (R188). There is no
return instruction. -/
def acknowledge (s : State) : State := writeStatus 0x6#64 s

/-- A CMD write while BUSY: dropped, OVR set (R154, R182). -/
def overrun (s : State) : State := setOverrun s

/-- The latch of a command that passed its checks (R157); it starts the unit's working state (R43, R132) and the count
of cycles. -/
def latch (op : BitVec 2) (s : State) : State :=
  { latchOperands op s with pend := true, work := startWork op s.opa s.opb, elapsed := 0 }

/-- `write_CMD(w)` (R154) for a word whose checks and latch are `accept`: an overrun while BUSY; else the bookkeeping of
R156 and then `accept`, in one step (R155). -/
def issue (w : Word) (accept : State → State) (s : State) : State :=
  if s.pend then overrun s else accept (bookkeep w s)

/-- The successful completion with result r (R160): RESULT, BUSY, DONE, ERR and ERRCODE in one step (R71). The working
state is discarded (R40); int.OP, int.A and int.B keep their values (log 13). -/
def finish (r : Word) (s : State) : State :=
  { setDoneFlags s with result := r, pend := false, work := .idle, elapsed := 0 }

/-- A rising edge with `rst = 1`: every value at reset, a command in flight abandoned (R201), response 0 (R202). The
samples of later cycles stay (log 16). -/
def applyReset (s : State) : State := { State.reset with inbox := s.inbox }

end Sys2Proof.Machine
end

