-- ==== Sys2Proof/Machine/Completion.lean ====
section
/-! DEFINITION. Completion, the core's only step (42_register_access.md R160), per command, and when the clock brings it
(70_reset_and_hazards.md R212). -/

namespace Sys2Proof.Machine

/-- MULMOD at completion (R106). -/
def completeMulmod (s : State) : Host.Outcome State Fault Refusal := .next (finish (mulmodAlg s.a s.b) s)

/-- POWMOD at completion (R115); `powmod_alg(a, 0)` is refused by name (R112, U1). Log 6. -/
def completePowmod (s : State) : Host.Outcome State Fault Refusal :=
  match powmodAlg s.a s.b with
  | some r => .next (finish r s)
  | none => .refused .powmodExponentZero

/-- TAG at completion (R139). -/
def completeTag (s : State) : Host.Outcome State Fault Refusal := .next (finish (tagAlg s.a s.b) s)

/-- `complete()` (R160); it is enabled exactly when int.PEND = 1, which its callers check. int.OP = 3 cannot occur and
has no effect to model. Log 5. -/
def complete (s : State) : Host.Outcome State Fault Refusal :=
  match s.op.toNat with
  | 0 => completeMulmod s
  | 1 => completePowmod s
  | 2 => completeTag s
  | _ => .fault .reservedOpInFlight

/-- RESULT as a function of the latched op and operands alone (R38, R160); none outside the domain of an accepted
command. -/
def commandResult (op : BitVec 2) (a b : Word) : Option Word :=
  match op.toNat with
  | 0 => some (mulmodAlg a b)
  | 1 => powmodAlg a b
  | 2 => some (tagAlg a b)
  | _ => none

/-- The core's part of a cycle. With no command in flight when the cycle began, nothing; else the completion if LATENCY
cycles have passed since the accept (R160, R212), else one more cycle of the unit's work. -/
def coreCycle (inFlight : Bool) (s : State) : Host.Outcome State Fault Refusal :=
  if inFlight then
    if Config.latency s.op s.a s.b ≤ s.elapsed + 1 then complete s
    else .next { s with
      elapsed := s.elapsed + 1
      work := workRun s.a s.b (Config.unitSteps s.op s.a s.b s.elapsed) s.work }
  else .next s

end Sys2Proof.Machine
end

