-- ==== Sys2Proof/Machine/Command.lean ====
section
/-! DEFINITION. The three commands at accept (40_modular_field.md R106, R115; 41_compression_tag.md R139), the accept of
any command word (42_register_access.md R154 to R157), and the meanings of MULMOD, POWMOD and TAG. -/

namespace Sys2Proof.Machine

/-- MULMOD at accept, after the bookkeeping: OPERAND_RANGE or the latch (R106, R156). -/
def acceptMulmod (s : State) : State := if outOfRange s then raise .operandRange s else latch 0#2 s

/-- POWMOD at accept, after the bookkeeping: EXP_ZERO or the latch (R115, R156). -/
def acceptPowmod (s : State) : State := if zeroExponent s then raise .expZero s else latch 1#2 s

/-- TAG at accept: no check (R139). -/
def acceptTag (s : State) : State := latch 2#2 s

/-- What follows the bookkeeping of `command_accept(w)` (R155, R156): the decoded command's check and latch, or
ILLEGAL_CMD (R86). -/
def acceptWord (w : Word) (s : State) : State :=
  match decodeCmd w with
  | .ok .mulmod => acceptMulmod s
  | .ok .powmod => acceptPowmod s
  | .ok .tag => acceptTag s
  | .ok (.busRead _) => raise .illegalCmd s
  | .ok (.busWrite _ _) => raise .illegalCmd s
  | .error _ => raise .illegalCmd s

/-- `write_CMD(w)` (R154). -/
def writeCmd (w : Word) (s : State) : State := issue w (acceptWord w) s

/-- MULMOD (R106): its word is written to CMD. Response 0, err 0 (R151). Its completion is `completeMulmod`. Log 11. -/
def execMulmod (s : State) : Host.Outcome State Fault Refusal :=
  .next (respond 0#64 (issue mulmodWord acceptMulmod s))

/-- POWMOD (R115): its word is written to CMD. Its completion is `completePowmod`. Log 11. -/
def execPowmod (s : State) : Host.Outcome State Fault Refusal :=
  .next (respond 0#64 (issue powmodWord acceptPowmod s))

/-- TAG (R139): its word is written to CMD. Its completion is `completeTag`. Log 11. -/
def execTag (s : State) : Host.Outcome State Fault Refusal :=
  .next (respond 0#64 (issue tagWord acceptTag s))

end Sys2Proof.Machine
end

