-- ==== Sys2Proof/Machine/BusAccess.lean ====
section
/-! DEFINITION. BUS_READ and BUS_WRITE (42_register_access.md R150 to R161). -/

namespace Sys2Proof.Machine

/-- The effect of a write to a slot (R151): OPA and OPB take the value (R152, R153), CMD issues a command (R154), STATUS
is write-1-to-clear (R158), CTRL takes IE (R159); RESULT, MODULUS and the reserved slot ignore it (R161). -/
def writeSlot : Slot → Word → State → State
  | .opa, v, s => { s with opa := v }
  | .opb, v, s => { s with opb := v }
  | .cmd, v, s => writeCmd v s
  | .status, v, s => writeStatus v s
  | .result, _, s => s
  | .ctrl, v, s => writeCtrl v s
  | .modulus, _, s => s
  | .reserved, _, s => s

/-- BUS_READ (R150): the slot's value on the response, no other change. A misaligned offset is a bus error (R64). -/
def execBusRead (addr : Offset) (s : State) : Host.Outcome State Fault Refusal :=
  if aligned addr then .next (respond (readSlot (slotOf addr) s) s) else .next (busError s)

/-- BUS_WRITE (R151): the slot's write effect, response 0. A misaligned offset is a bus error (R64). -/
def execBusWrite (addr : Offset) (wdata : Word) (s : State) : Host.Outcome State Fault Refusal :=
  if aligned addr then .next (respond 0#64 (writeSlot (slotOf addr) wdata s)) else .next (busError s)

end Sys2Proof.Machine
end

