-- ==== Sys2Proof/Machine/Dispatch.lean ====
section
/-! DEFINITION. The one dispatch from an instruction to its meaning. -/

namespace Sys2Proof.Machine

def exec (i : Instr) (s : State) : Host.Outcome State Fault Refusal :=
  match i with
  | .busRead addr => Sys2Proof.Machine.execBusRead addr s
  | .busWrite addr wdata => Sys2Proof.Machine.execBusWrite addr wdata s
  | .mulmod => Sys2Proof.Machine.execMulmod s
  | .powmod => Sys2Proof.Machine.execPowmod s
  | .tag => Sys2Proof.Machine.execTag s

end Sys2Proof.Machine
end

