-- ==== Sys2Proof/Machine/Cycle.lean ====
section
/-! DEFINITION. One transaction at the port (30_encoding.md R85) and one clock cycle without reset (20_memory.md R70). -/

namespace Sys2Proof.Machine

/-- A transaction (R85): the decoded instruction runs; a misaligned one is a bus error (R64, R184). -/
def present (r : BusRequest) (s : State) : Host.Outcome State Fault Refusal :=
  match decodeBus r with
  | .ok i => exec i s
  | .error _ => .next (busError s)

/-- The host's part of a cycle: the transaction presented, or none, whose response outputs are 0 (R200). -/
def hostCycle (req : Option BusRequest) (s : State) : Host.Outcome State Fault Refusal :=
  match req with
  | some r => present r s
  | none => .next (noResponse s)

/-- A cycle with `rst = 0`: the transaction first, against the state before the completion, the completion second (R70).
A command accepted in this cycle completes in a later one, since LATENCY is at least 1 (R8, R214). -/
def clockCycle (req : Option BusRequest) (s : State) : Host.Outcome State Fault Refusal :=
  andThen (hostCycle req s) (coreCycle s.pend)

end Sys2Proof.Machine
end

