-- ==== Sys2Proof/Machine/Step.lean ====
section
/-! DEFINITION. One step of the machine: one rising edge of `clk` (R200). -/

namespace Sys2Proof.Machine

/-- One clock cycle on the next port sample of the inbox; an empty inbox is a cycle with `rst = 0` and `bus_valid = 0`. -/
def step (s : State) : Host.Outcome State Fault Refusal :=
  match s.inbox with
  | [] => clockCycle none s
  | p :: rest =>
    if p.rst then .next (applyReset { s with inbox := rest }) else clockCycle p.req { s with inbox := rest }

/-- The state with the transaction that carries a row of opcode_table.json put before its inbox, so that the next step
performs it. It stands for the host presenting that transaction (log 2, log 12). -/
def State.withFetchWord (s : State) (nbits w : Nat) : State :=
  match codeOfTableWord nbits w with
  | some c => { s with inbox := ⟨false, some (requestOfCode c)⟩ :: s.inbox }
  | none => s

end Sys2Proof.Machine
end

