-- ==== Sys2Proof/Safety.lean ====
section
/-! DEFINITION. What the claims speak of: the invariants of 10_state.md R44, the atomic steps of 20_memory.md R69, and
the runs of the clocked machine. -/

namespace Sys2Proof.Safety

open Sys2Proof.Machine

/-- The invariants of R44 items 2, 3 and 5 and of R160 (the operands of a command in flight are inside its domain), and
those of the model's own fields: nothing is counted or worked on while IDLE; a command in flight has not yet had its
LATENCY; and its unit's working state leads to its result. -/
structure StateInv (s : State) : Prop where
  /-- R44 item 2. -/
  busyFlags : s.pend = true → s.done = false ∧ s.err = false ∧ s.errcode = 0#4
  /-- R44 item 3. -/
  errIffCode : s.err = true ↔ s.errcode = 1#4 ∨ s.errcode = 2#4 ∨ s.errcode = 3#4
  /-- R44 item 3. -/
  noErrIffNone : s.err = false ↔ s.errcode = 0#4
  /-- R44 item 5. -/
  busyOp : s.pend = true → s.lastop = s.op ∧ (s.op = 0#2 ∨ s.op = 1#2 ∨ s.op = 2#2)
  /-- R160: `int.A, int.B < P` for a MULMOD in flight. -/
  mulmodDomain : s.pend = true → s.op = 0#2 → s.a < Config.modulus ∧ s.b < Config.modulus
  /-- R160: `int.B >= 1` for a POWMOD in flight. -/
  powmodDomain : s.pend = true → s.op = 1#2 → s.b ≠ 0#64
  /-- R40: no working state outlives an operation. -/
  idleWork : s.pend = false → s.work = .idle ∧ s.elapsed = 0
  /-- R212: a completion is not late. -/
  inTime : s.pend = true → s.elapsed < Config.latency s.op s.a s.b
  /-- R41, R114: the iterations left lead to the value RESULT receives. -/
  workLeads : s.pend = true → workResult s.a s.b s.work = commandResult s.op s.a s.b

/-- Operands inside the domain of an op, as its accept check requires (R156). -/
def inDomain (op : BitVec 2) (a b : Word) : Prop :=
  (op = 0#2 ∧ a < Config.modulus ∧ b < Config.modulus) ∨ (op = 1#2 ∧ b ≠ 0#64) ∨ op = 2#2

/-- R44 item 6, as far as one state shows it: RESULT is 0 or the result of some command inside its domain. It is weak,
since every value below P is the product of itself and 1; which command's result it is, only a run says
(Obligations.ResultIsThatOfLastCompletion). -/
def ResultLegal (s : State) : Prop :=
  s.result = 0#64 ∨ ∃ op a b, inDomain op a b ∧ commandResult op a b = some s.result

/-- The state without the model's clock, working state and ports: the registers and the latch (R22 to R38). -/
def arch (s : State) : State := { s with work := .idle, elapsed := 0, inbox := [], resp := ⟨0#64, false⟩ }

/-- The atomic events of the untimed interleaving (R69), and reset (R201). -/
inductive Event where
  /-- A host transaction. -/
  | transaction (r : BusRequest)
  /-- The completion of the command in flight. -/
  | completion
  /-- A rising edge with `rst = 1`. -/
  | reset
deriving DecidableEq, Repr

/-- The event leads from one state to the other, as one atomic step. A completion is enabled exactly when int.PEND = 1
(R160). -/
def Occurs : Event → State → State → Prop
  | .transaction r, s, t => present r s = .next t
  | .completion, s, t => s.pend = true ∧ complete s = .next t
  | .reset, s, t => t = applyReset s

/-- A list of events leads from one state to the other, in order. -/
inductive EventRun : List Event → State → State → Prop where
  | nil (s : State) : EventRun [] s s
  | cons (e : Event) (es : List Event) (s t u : State) : Occurs e s t → EventRun es t u → EventRun (e :: es) s u

/-- Every event of the list is a host transaction: no completion, no reset. -/
def OnlyTransactions (es : List Event) : Prop := ∀ e ∈ es, ∃ r, e = .transaction r

/-- The transactions among some events, in order. -/
def transactionsOf (es : List Event) : List BusRequest :=
  es.filterMap fun e =>
    match e with
    | .transaction r => some r
    | .completion => none
    | .reset => none

/-- The transactions that take effect in some port samples, in order: those of cycles with `rst = 0` (R202). -/
def effectiveRequests (ps : List PortCycle) : List BusRequest :=
  ps.filterMap fun p => if p.rst then none else p.req

/-- The responses that follow a next state; a stop has none. -/
def responsesAfter (o : Host.Outcome State Fault Refusal) (f : State → List Response) : List Response :=
  match o with
  | .next t => f t
  | .fault _ => []
  | .refused _ => []

/-- What the host sees of some events: the response of each transaction, in order (R81). -/
def eventResponses : List Event → State → List Response
  | [], _ => []
  | .transaction r :: es, s => responsesAfter (present r s) fun t => t.resp :: eventResponses es t
  | .completion :: es, s => responsesAfter (complete s) fun t => eventResponses es t
  | .reset :: es, s => eventResponses es (applyReset s)

/-- What the host sees of `n` clock cycles: the response of each cycle whose transaction takes effect, in order (R200,
R202). -/
def cycleResponses : Nat → State → List Response
  | 0, _ => []
  | n + 1, s => responsesAfter (step s) fun t =>
      (effectiveRequests (s.inbox.take 1)).map (fun _ => t.resp) ++ cycleResponses n t

/-- `n` clock cycles lead from one state to the other, without a stop. -/
inductive Runs : Nat → State → State → Prop where
  | zero (s : State) : Runs 0 s s
  | succ (n : Nat) (s t u : State) : step s = .next t → Runs n t u → Runs (n + 1) s u

/-- The next cycle presents this transaction, without reset. -/
def Presents (s : State) (r : BusRequest) : Prop := ∃ rest, s.inbox = ⟨false, some r⟩ :: rest

/-- The next cycle is one with `rst = 1`. -/
def ResetsNext (s : State) : Prop := ∃ req rest, s.inbox = ⟨true, req⟩ :: rest

/-- No sample of the inbox asserts `rst`. -/
def NoResetAhead (s : State) : Prop := ∀ p ∈ s.inbox, p.rst = false

/-- The request is an aligned write of the given slot. -/
def WritesSlot (k : Slot) (r : BusRequest) : Prop := r.we = true ∧ aligned r.addr = true ∧ slotOf r.addr = k

/-- A value written to STATUS that clears ERR and leaves DONE (R158). -/
def ClearsErrAlone (v : Word) : Prop := v.getLsbD 2 = true ∧ v.getLsbD 1 = false

/-- The word is one of the three legal command words and OPA and OPB pass its check (R156). -/
def Acceptable (w : Word) (s : State) : Prop := rsvdField w = 0#62 ∧ inDomain (opField w) s.opa s.opb

end Sys2Proof.Safety
end

