-- ==== Sys2Proof/Certificates/Slice0/Obligations.lean ====
section
/-! DEFINITION. The statements for the provers, from the numbered rules of spec/. Nothing here is about a program. -/

open Sys2Proof Sys2Proof.Machine Sys2Proof.Safety

/-! ## Encoding and decoding -/

/-- R80, R81, R83, R85: decoding the code of a well-formed instruction gives the instruction back, with every operand. -/
def Obligations.DecodeOfEncodeIsInstruction : Prop :=
  ∀ i : Instr, wellFormed i = true → decode (encode i) = .ok i

/-- R96: some of the headers and the three command words, written out, decode to what they stand for. -/
def Obligations.SpecWordsDecode : Prop :=
  decodeTableWord 8 0x00 = some (.busRead 0x00#6) ∧ decodeTableWord 8 0x18 = some (.busRead 0x18#6) ∧
  decodeTableWord 8 0x38 = some (.busRead 0x38#6) ∧ decodeTableWord 8 0x40 = some (.busWrite 0x00#6 0#64) ∧
  decodeTableWord 8 0x50 = some (.busWrite 0x10#6 0#64) ∧ decodeTableWord 8 0x1C = none ∧
  decodeTableWord 64 0x0 = some .mulmod ∧ decodeTableWord 64 0x1 = some .powmod ∧
  decodeTableWord 64 0x2 = some .tag ∧ decodeTableWord 64 0x3 = none ∧ decodeTableWord 64 0x4 = none

/-- R81, R85: bit 6 of a header is `we`, bits 5:0 are `addr`, and a header with `addr[2:0] != 0` is no instruction. That
a header is an 8-bit table word, and that its write carries data 0, are the model's choices (log 12). -/
def Obligations.HeadersDecode : Prop :=
  ∀ h : Header, decodeTableWord 8 h.toNat =
    if h.extractLsb' 0 3 = 0#3 then
      some (if h.getLsbD 6 then .busWrite (h.extractLsb' 0 6) 0#64 else .busRead (h.extractLsb' 0 6))
    else none

/-- R83, R86, R96: the three legal command words, and every other word illegal. -/
def Obligations.OnlyThreeLegalCommandWords : Prop :=
  ∀ w : Word, decodeCmd w =
    if w = 0x0000000000000000#64 then .ok .mulmod
    else if w = 0x0000000000000001#64 then .ok .powmod
    else if w = 0x0000000000000002#64 then .ok .tag
    else .error .illegalCmd

/-! ## Steps, ports and reset -/

/-- R69, R70, R85: with a transaction at the port, a step runs the decoded instruction and then the core's part of the
cycle. -/
def Obligations.StepRunsDecodedTransaction : Prop :=
  ∀ (s : State) (r : BusRequest) (rest : List PortCycle) (i : Instr),
    s.inbox = ⟨false, some r⟩ :: rest → decodeBus r = .ok i →
      step s = andThen (exec i { s with inbox := rest }) (coreCycle s.pend)

/-- The table's rows at the port while IDLE: the next step is `exec` of the row's instruction. The CMD write that carries
a command word is the model's reading of a command presented to the block (log 11, log 12). -/
def Obligations.TableRowsRunAsNextStep : Prop :=
  ∀ s : State, s.pend = false →
    step (s.withFetchWord 64 0) = exec .mulmod s ∧
    step (s.withFetchWord 64 1) = exec .powmod s ∧
    step (s.withFetchWord 64 2) = exec .tag s ∧
    ∀ addr : Offset, addr.extractLsb' 0 3 = 0#3 →
      step (s.withFetchWord 8 addr.toNat) = exec (.busRead addr) s ∧
      step (s.withFetchWord 8 (64 + addr.toNat)) = exec (.busWrite addr 0#64) s

/-- R201, R202: a cycle with `rst = 1` leads to the reset state, whatever is presented, with response 0, and `irq` is 0.
That the samples of later cycles stay is the model's choice (log 16). -/
def Obligations.ResetCycleLeavesResetState : Prop :=
  ∀ (s : State) (req : Option BusRequest) (rest : List PortCycle), s.inbox = ⟨true, req⟩ :: rest →
    ∃ t, step s = .next t ∧
      t.opa = 0#64 ∧ t.opb = 0#64 ∧ t.result = 0#64 ∧ statusWord t = 0#64 ∧ ctrlWord t = 0#64 ∧
      readSlot .modulus t = 0xFFFFFFFFFFFFFFC5#64 ∧ readSlot .reserved t = 0#64 ∧
      t.pend = false ∧ t.op = 0#2 ∧ t.a = 0#64 ∧ t.b = 0#64 ∧
      irq t = false ∧ t.resp = ⟨0#64, false⟩ ∧ t.inbox = rest

/-- R43: what reset leaves, register by register, as a host would read it. -/
def Obligations.ResetValues : Prop :=
  readSlot .opa State.reset = 0#64 ∧ readSlot .opb State.reset = 0#64 ∧ readSlot .cmd State.reset = 0#64 ∧
  readSlot .status State.reset = 0#64 ∧ readSlot .result State.reset = 0#64 ∧ readSlot .ctrl State.reset = 0#64 ∧
  readSlot .modulus State.reset = 0xFFFFFFFFFFFFFFC5#64 ∧ readSlot .reserved State.reset = 0#64 ∧
  irq State.reset = false ∧ State.reset.pend = false ∧ State.reset.op = 0#2 ∧
  State.reset.a = 0#64 ∧ State.reset.b = 0#64

/-- R200, R203: while IDLE, a cycle with nothing presented changes nothing and answers 0. That a state with no sample
listed has such a cycle next is the model's choice (log 2). -/
def Obligations.IdleCycleDoesNothing : Prop :=
  ∀ s : State, s.pend = false → (s.inbox = [] → step s = .next { s with resp := ⟨0#64, false⟩ }) ∧
    (∀ rest, s.inbox = ⟨false, none⟩ :: rest → step s = .next { s with inbox := rest, resp := ⟨0#64, false⟩ })

/-- R64, R184: a misaligned transaction answers `rdata = 0`, `err = 1` and changes no state, `irq` among it. That
`exec` of the ill-formed terms that spell it answers the same is the model's reading (log 18). -/
def Obligations.MisalignedTransactionIsBusError : Prop :=
  ∀ (r : BusRequest) (s : State), r.addr.extractLsb' 0 3 ≠ 0#3 →
    present r s = .next { s with resp := ⟨0#64, true⟩ } ∧
    exec (.busRead r.addr) s = .next { s with resp := ⟨0#64, true⟩ } ∧
    exec (.busWrite r.addr r.wdata) s = .next { s with resp := ⟨0#64, true⟩ } ∧
    irq { s with resp := ⟨0#64, true⟩ } = irq s

/-- R8, R60, R163: LATENCY lies in `[1, LAT_MAX]`; BASE is a multiple of 64, an access goes to `BASE + addr`, and decoding
the window gives the offset back; an address outside the window has none. -/
def Obligations.ParametersWithinBounds : Prop :=
  (∀ (op : BitVec 2) (a b : Word), 1 ≤ Config.latency op a b ∧ Config.latency op a b ≤ Config.latMax) ∧
  Config.base % 64 = 0 ∧
  (∀ o : Offset, hostAddress o = Config.base + o.toNat ∧ windowOffset (hostAddress o) = some o) ∧
  (∀ n : Nat, (n < Config.base ∨ Config.base + 64 ≤ n) → windowOffset n = none)

/-! ## BUS_READ -/

/-- R150: what a read of each slot answers, with `err = 0` and no state written. -/
def Obligations.BusReadReturnsSlot : Prop :=
  ∀ s : State,
    exec (.busRead 0x00#6) s = .next { s with resp := ⟨s.opa, false⟩ } ∧
    exec (.busRead 0x08#6) s = .next { s with resp := ⟨s.opb, false⟩ } ∧
    exec (.busRead 0x10#6) s = .next { s with resp := ⟨0#64, false⟩ } ∧
    exec (.busRead 0x18#6) s = .next { s with resp := ⟨(s.lastop ++ s.errcode ++ BitVec.ofBool s.ovr ++
      BitVec.ofBool s.err ++ BitVec.ofBool s.done ++ BitVec.ofBool s.pend).setWidth 64, false⟩ } ∧
    exec (.busRead 0x20#6) s = .next { s with resp := ⟨s.result, false⟩ } ∧
    exec (.busRead 0x28#6) s = .next { s with resp := ⟨(BitVec.ofBool s.ie).setWidth 64, false⟩ } ∧
    exec (.busRead 0x30#6) s = .next { s with resp := ⟨0xFFFFFFFFFFFFFFC5#64, false⟩ } ∧
    exec (.busRead 0x38#6) s = .next { s with resp := ⟨0#64, false⟩ }

/-- R25, R26, R32: where each field of STATUS stands, and the reserved bits read 0. -/
def Obligations.StatusLayout : Prop :=
  ∀ s : State, (statusWord s).getLsbD 0 = s.pend ∧ (statusWord s).getLsbD 1 = s.done ∧
    (statusWord s).getLsbD 2 = s.err ∧ (statusWord s).getLsbD 3 = s.ovr ∧
    (statusWord s).extractLsb' 4 4 = s.errcode ∧ (statusWord s).extractLsb' 8 2 = s.lastop ∧
    (statusWord s).extractLsb' 10 54 = 0#54

/-- R62: byte `o + k` of a slot is bits `8k+7 : 8k` of the register. -/
def Obligations.WindowBytesAreLittleEndian : Prop :=
  ∀ (s : State) (k : Slot) (j : Nat), j < 8 →
    windowByte s (offsetOf k + BitVec.ofNat 6 j) = (readSlot k s).extractLsb' (8 * j) 8

/-! ## BUS_WRITE -/

/-- R152, R153, R159, R161: OPA and OPB take the value whole, IDLE or BUSY, and nothing else changes, the latch among it;
CTRL takes bit 0 into IE, and `irq` follows at once; RESULT, MODULUS and the reserved slot ignore the write. -/
def Obligations.BusWriteToRegisterSlots : Prop :=
  ∀ (s : State) (v : Word),
    exec (.busWrite 0x00#6 v) s = .next { s with opa := v, resp := ⟨0#64, false⟩ } ∧
    exec (.busWrite 0x08#6 v) s = .next { s with opb := v, resp := ⟨0#64, false⟩ } ∧
    exec (.busWrite 0x28#6 v) s = .next { s with ie := v.getLsbD 0, resp := ⟨0#64, false⟩ } ∧
    irq { s with ie := v.getLsbD 0, resp := ⟨0#64, false⟩ } = (v.getLsbD 0 && s.done) ∧
    exec (.busWrite 0x20#6 v) s = .next { s with resp := ⟨0#64, false⟩ } ∧
    exec (.busWrite 0x30#6 v) s = .next { s with resp := ⟨0#64, false⟩ } ∧
    exec (.busWrite 0x38#6 v) s = .next { s with resp := ⟨0#64, false⟩ }

/-- R158: write 1 to clear on STATUS bits 1 to 3; clearing ERR clears ERRCODE; every other bit is ignored. -/
def Obligations.StatusWriteClearsOnes : Prop :=
  ∀ (s : State) (v : Word), exec (.busWrite 0x18#6 v) s = .next { s with
    done := if v.getLsbD 1 then false else s.done
    err := if v.getLsbD 2 then false else s.err
    errcode := if v.getLsbD 2 then 0#4 else s.errcode
    ovr := if v.getLsbD 3 then false else s.ovr
    resp := ⟨0#64, false⟩ }

/-- The frame of the transactions, byte by byte of the window: a read changes no byte; a write changes only bytes of its
own slot, and a write of CMD only bytes of STATUS. MULMOD, POWMOD and TAG change only bytes of STATUS because their `exec`
is the accept alone, which is the model's choice (log 11); RESULT is written at the completion (R160). -/
def Obligations.TransactionsKeepOtherBytes : Prop :=
  (∀ (addr : Offset) (s t : State), exec (.busRead addr) s = .next t → ∀ o, windowByte t o = windowByte s o) ∧
  (∀ (addr : Offset) (v : Word) (s t : State), exec (.busWrite addr v) s = .next t →
    ∀ o, slotOf o ≠ (if slotOf addr = .cmd then .status else slotOf addr) → windowByte t o = windowByte s o) ∧
  (∀ (i : Instr) (s t : State), i = .mulmod ∨ i = .powmod ∨ i = .tag → exec i s = .next t →
    ∀ o, slotOf o ≠ .status → windowByte t o = windowByte s o)

/-- R66: a write of any slot but CMD is idempotent. -/
def Obligations.WritesButCmdAreIdempotent : Prop :=
  ∀ (addr : Offset) (v : Word) (s t : State), slotOf addr ≠ .cmd →
    exec (.busWrite addr v) s = .next t → exec (.busWrite addr v) t = .next t

/-! ## Commands at accept -/

/-- R154, R156, R157, R183, R186: the one outcome of a CMD write, in the order of R186. The last two fields of the latch
are the model's own (log 3, log 7). -/
def Obligations.CmdWriteOutcome : Prop :=
  ∀ (w : Word) (s : State), exec (.busWrite 0x10#6 w) s = .next (
    if s.pend = true then { s with ovr := true, resp := ⟨0#64, false⟩ }
    else if w.extractLsb' 2 62 ≠ 0#62 ∨ w.extractLsb' 0 2 = 3#2 then
      { s with done := true, err := true, errcode := 1#4, lastop := w.extractLsb' 0 2, resp := ⟨0#64, false⟩ }
    else if w.extractLsb' 0 2 = 0#2 ∧ (Config.modulus ≤ s.opa ∨ Config.modulus ≤ s.opb) then
      { s with done := true, err := true, errcode := 2#4, lastop := 0#2, resp := ⟨0#64, false⟩ }
    else if w.extractLsb' 0 2 = 1#2 ∧ s.opb = 0#64 then
      { s with done := true, err := true, errcode := 3#4, lastop := 1#2, resp := ⟨0#64, false⟩ }
    else { s with
      done := false, err := false, errcode := 0#4, lastop := w.extractLsb' 0 2, pend := true
      op := w.extractLsb' 0 2, a := s.opa, b := s.opb, resp := ⟨0#64, false⟩
      work := startWork (w.extractLsb' 0 2) s.opa s.opb, elapsed := 0 })

/-- R154, R182: a command presented while BUSY, by a CMD write or as one of the three commands, is dropped and sets OVR;
nothing else changes, `irq` among it. -/
def Obligations.CommandWhileBusyOverruns : Prop :=
  ∀ (s : State) (w : Word), s.pend = true →
    exec (.busWrite 0x10#6 w) s = .next { s with ovr := true, resp := ⟨0#64, false⟩ } ∧
    exec .mulmod s = .next { s with ovr := true, resp := ⟨0#64, false⟩ } ∧
    exec .powmod s = .next { s with ovr := true, resp := ⟨0#64, false⟩ } ∧
    exec .tag s = .next { s with ovr := true, resp := ⟨0#64, false⟩ } ∧
    irq { s with ovr := true, resp := ⟨0#64, false⟩ } = irq s

/-- R106, R156, R157: MULMOD accepted. Everything the accept writes, and everything else unchanged. -/
def Obligations.MulmodIsAccepted : Prop :=
  ∀ s : State, s.pend = false → s.opa < Config.modulus → s.opb < Config.modulus →
    exec .mulmod s = .next { s with
      done := false, err := false, errcode := 0#4, lastop := 0#2, pend := true, op := 0#2, a := s.opa, b := s.opb
      work := .mul ⟨0#64, s.opa, s.opb⟩, elapsed := 0, resp := ⟨0#64, false⟩ }

/-- R106, R115, R183: MULMOD with an operand outside `[0, P)` is the error completion OPERAND_RANGE, and POWMOD with
exponent 0 the error completion EXP_ZERO: RESULT unchanged, BUSY never set. -/
def Obligations.OperandsOutsideDomainAreErrors : Prop :=
  ∀ s : State, s.pend = false →
    ((Config.modulus ≤ s.opa ∨ Config.modulus ≤ s.opb) → exec .mulmod s = .next { s with
      done := true, err := true, errcode := 2#4, lastop := 0#2, resp := ⟨0#64, false⟩ }) ∧
    (s.opb = 0#64 → exec .powmod s = .next { s with
      done := true, err := true, errcode := 3#4, lastop := 1#2, resp := ⟨0#64, false⟩ })

/-- R115, R156, R157: POWMOD accepted. -/
def Obligations.PowmodIsAccepted : Prop :=
  ∀ s : State, s.pend = false → s.opb ≠ 0#64 →
    exec .powmod s = .next { s with
      done := false, err := false, errcode := 0#4, lastop := 1#2, pend := true, op := 1#2, a := s.opa, b := s.opb
      work := .pow (canonical s.opa) (bitlen s.opb - 1), elapsed := 0, resp := ⟨0#64, false⟩ }

/-- R139, R156, R157: TAG accepted, whatever the operands. -/
def Obligations.TagIsAccepted : Prop :=
  ∀ s : State, s.pend = false →
    exec .tag s = .next { s with
      done := false, err := false, errcode := 0#4, lastop := 2#2, pend := true, op := 2#2, a := s.opa, b := s.opb
      work := .tag tagInit 0, elapsed := 0, resp := ⟨0#64, false⟩ }

/-- R83, R155: a CMD write of a legal word is the command. -/
def Obligations.CmdWriteRunsItsCommand : Prop :=
  ∀ s : State, exec (.busWrite 0x10#6 0#64) s = exec .mulmod s ∧
    exec (.busWrite 0x10#6 1#64) s = exec .powmod s ∧ exec (.busWrite 0x10#6 2#64) s = exec .tag s

/-- R181, R183, R188: an error completion sets DONE, ERR and its code, and nothing else; writing 1 to STATUS bits 1 and 2
clears DONE, ERR and ERRCODE; OVR is acknowledged by bit 3 alone. -/
def Obligations.ErrorCompletionAndAcknowledgement : Prop :=
  ∀ s : State,
    raise .illegalCmd s = { s with done := true, err := true, errcode := 1#4 } ∧
    raise .operandRange s = { s with done := true, err := true, errcode := 2#4 } ∧
    raise .expZero s = { s with done := true, err := true, errcode := 3#4 } ∧
    acknowledge s = { s with done := false, err := false, errcode := 0#4 } ∧
    exec (.busWrite 0x18#6 0x6#64) s = .next (respond 0#64 (acknowledge s)) ∧
    exec (.busWrite 0x18#6 0x8#64) s = .next { s with ovr := false, resp := ⟨0#64, false⟩ }

/-! ## Completion -/

/-- R160: a completion writes RESULT from the latch alone and ends the command; nothing else of the spec's state
changes. -/
def Obligations.CompletionWritesResult : Prop :=
  ∀ s : State,
    (s.op = 0#2 → complete s = .next { s with
      result := mulmodAlg s.a s.b, pend := false, done := true, err := false, errcode := 0#4
      work := .idle, elapsed := 0 }) ∧
    (s.op = 1#2 → s.b ≠ 0#64 → ∃ r, powmodAlg s.a s.b = some r ∧ complete s = .next { s with
      result := r, pend := false, done := true, err := false, errcode := 0#4, work := .idle, elapsed := 0 }) ∧
    (s.op = 2#2 → complete s = .next { s with
      result := tagAlg s.a s.b, pend := false, done := true, err := false, errcode := 0#4
      work := .idle, elapsed := 0 })

/-- The model's two stops (log 5, log 6), in completions R160 says cannot occur. -/
def Obligations.CompletionStopsOutsideDomain : Prop :=
  ∀ s : State, (s.op = 3#2 → complete s = .fault .reservedOpInFlight) ∧
    (s.op = 1#2 → s.b = 0#64 → complete s = .refused .powmodExponentZero)

/-- R104, R106: MULMOD, accepted and completed, leaves `a * b mod P` in RESULT. -/
def Obligations.MulmodComputesProduct : Prop :=
  ∀ s : State, s.pend = false → s.opa < Config.modulus → s.opb < Config.modulus →
    ∃ t u, exec .mulmod s = .next t ∧ t.pend = true ∧ complete t = .next u ∧
      u.result.toNat = s.opa.toNat * s.opb.toNat % (2 ^ 64 - 59) ∧
      u.pend = false ∧ u.done = true ∧ u.err = false ∧ u.errcode = 0#4 ∧ u.lastop = 0#2 ∧
      u.opa = s.opa ∧ u.opb = s.opb ∧ u.ovr = s.ovr ∧ u.ie = s.ie

/-- R113, R115: POWMOD, accepted and completed, leaves `(a mod P)^b mod P` in RESULT. -/
def Obligations.PowmodComputesPower : Prop :=
  ∀ s : State, s.pend = false → s.opb ≠ 0#64 →
    ∃ t u, exec .powmod s = .next t ∧ t.pend = true ∧ complete t = .next u ∧
      u.result.toNat = (s.opa.toNat % (2 ^ 64 - 59)) ^ s.opb.toNat % (2 ^ 64 - 59) ∧
      u.pend = false ∧ u.done = true ∧ u.err = false ∧ u.errcode = 0#4 ∧ u.lastop = 1#2 ∧
      u.opa = s.opa ∧ u.opb = s.opb ∧ u.ovr = s.ovr ∧ u.ie = s.ie

/-- R139: TAG, accepted and completed, leaves `tag_alg(x, y)` in RESULT. -/
def Obligations.TagComputesTag : Prop :=
  ∀ s : State, s.pend = false →
    ∃ t u, exec .tag s = .next t ∧ t.pend = true ∧ complete t = .next u ∧ u.result = tagAlg s.opa s.opb ∧
      u.pend = false ∧ u.done = true ∧ u.err = false ∧ u.errcode = 0#4 ∧ u.lastop = 2#2 ∧
      u.opa = s.opa ∧ u.opb = s.opb ∧ u.ovr = s.ovr ∧ u.ie = s.ie

/-! ## The functions -/

/-- R104: for `a < P` and any b, `mulmod_alg(a, b)` is the product modulo P; and after k iterations the multiplicand is
`a * 2^k mod P` and the accumulator `a * (b mod 2^k) mod P`, both below P. -/
def Obligations.MultiplierComputesProduct : Prop :=
  ∀ a b : Word, a < Config.modulus →
    (mulmodAlg a b).toNat = a.toNat * b.toNat % (2 ^ 64 - 59) ∧
    ∀ k : Nat,
      (mulIter^[k] ⟨0#64, a, b⟩).a.toNat = a.toNat * 2 ^ k % (2 ^ 64 - 59) ∧
      (mulIter^[k] ⟨0#64, a, b⟩).m.toNat = a.toNat * (b.toNat % 2 ^ k) % (2 ^ 64 - 59) ∧
      (mulIter^[k] ⟨0#64, a, b⟩).b = b >>> k

/-- R105: outside the domain, `a = P` gives 0 for every b, and `mulmod_alg(P + 1, 1)` is not 1. -/
def Obligations.MulmodAlgOutsideDomain : Prop :=
  (∀ b : Word, mulmodAlg Config.modulus b = 0#64) ∧
  mulmodAlg (Config.modulus + 1#64) 1#64 = 0xFFFFFFFFFFFFFFC6#64

/-- R101, R112: the scan runs `bitlen(b)` iterations, and `bitlen(b) - 1` halvings reach the base case of the power. -/
def Obligations.LoopsEndAtBitLength : Prop :=
  (∀ (l : MulLoop) (k : Nat), (mulIter^[k] l).b = 0#64 ↔ bitlen l.b ≤ k) ∧
  (∀ (a b : Word) (n : Nat), b ≠ 0#64 → bitlen b - 1 ≤ n → powRec a n b = powRec a (bitlen b - 1) b)

/-- R113: for every a and every `b >= 1`, `powmod_alg(a, b)` is the power of the reduced base, below P. -/
def Obligations.PowmodAlgIsPower : Prop :=
  ∀ a b : Word, b ≠ 0#64 → ∃ r, powmodAlg a b = some r ∧
    r.toNat = (a.toNat % (2 ^ 64 - 59)) ^ b.toNat % (2 ^ 64 - 59) ∧ r < Config.modulus

/-- R110: the canonical reduction is `a mod P`; at `a = P` it gives 0, and above P it gives at most 58. -/
def Obligations.CanonicalReducesBase : Prop :=
  ∀ a : Word, (canonical a).toNat = a.toNat % (2 ^ 64 - 59) ∧
    (Config.modulus ≤ a → canonical a = a - Config.modulus ∧ (canonical a).toNat ≤ 58)

/-- R114: the iteration from the most significant bit down gives the value of the recursion. -/
def Obligations.PowIterationEqualsRecursion : Prop :=
  ∀ a b : Word, b ≠ 0#64 → powmodAlg a b = some (powIter (canonical a) b)

/-- R116: MULMOD's function is commutative on its domain, and powers commute, which is the key exchange's law. -/
def Obligations.ModularOperationsCommute : Prop :=
  (∀ a b : Word, a < Config.modulus → b < Config.modulus → mulmodAlg a b = mulmodAlg b a) ∧
  (∀ g x y : Word, x ≠ 0#64 → y ≠ 0#64 → ∃ u v k, powmodAlg g x = some u ∧ powmodAlg g y = some v ∧
    powmodAlg u y = some k ∧ powmodAlg v x = some k)

/-- R3: the modulus is `2^64 - 59`, a prime, and no prime below `2^64` is larger. -/
def Obligations.ModulusIsLargestPrime : Prop :=
  Config.modulus.toNat = 2 ^ 64 - 59 ∧ Config.modulus - 1#64 = 0xFFFFFFFFFFFFFFC4#64 ∧
  Nat.Prime (2 ^ 64 - 59) ∧ ∀ q : Nat, Nat.Prime q → q < 2 ^ 64 → q ≤ 2 ^ 64 - 59

/-- R115, corner case: with exponent `P - 1`, POWMOD gives 1 for every base that is not 0 modulo P. -/
def Obligations.PowmodByModulusLessOneIsOne : Prop :=
  ∀ a : Word, a.toNat % (2 ^ 64 - 59) ≠ 0 → powmodAlg a (Config.modulus - 1#64) = some 1#64

/-- R131, R136: the input words are the four halves repeated, so that only `g(i) mod 4` matters. -/
def Obligations.InputWordsRepeat : Prop :=
  ∀ (x y : Word) (k : Nat),
    inputWord x y (4 * k) = x.extractLsb' 32 32 ∧ inputWord x y (4 * k + 1) = x.extractLsb' 0 32 ∧
    inputWord x y (4 * k + 2) = y.extractLsb' 32 32 ∧ inputWord x y (4 * k + 3) = y.extractLsb' 0 32 ∧
    inputWord x y (wordIndex k) = inputWord x y (wordIndex k % 4)

/-- R133, R134, R140: the round constants and rotation amounts are the tables' entries, written out here; and `tag_alg`
is its pseudocode with those tables, written a second time as one loop over a quadruple. The tables are those the spec
takes from MD5 (log 8). -/
def Obligations.TagAlgIsItsPseudocode : Prop :=
  let k : List Half :=
    [0xD76AA478#32, 0xE8C7B756#32, 0x242070DB#32, 0xC1BDCEEE#32,
      0xF57C0FAF#32, 0x4787C62A#32, 0xA8304613#32, 0xFD469501#32,
      0x698098D8#32, 0x8B44F7AF#32, 0xFFFF5BB1#32, 0x895CD7BE#32,
      0x6B901122#32, 0xFD987193#32, 0xA679438E#32, 0x49B40821#32] ++
    [0xF61E2562#32, 0xC040B340#32, 0x265E5A51#32, 0xE9B6C7AA#32,
      0xD62F105D#32, 0x02441453#32, 0xD8A1E681#32, 0xE7D3FBC8#32,
      0x21E1CDE6#32, 0xC33707D6#32, 0xF4D50D87#32, 0x455A14ED#32,
      0xA9E3E905#32, 0xFCEFA3F8#32, 0x676F02D9#32, 0x8D2A4C8A#32] ++
    [0xFFFA3942#32, 0x8771F681#32, 0x6D9D6122#32, 0xFDE5380C#32,
      0xA4BEEA44#32, 0x4BDECFA9#32, 0xF6BB4B60#32, 0xBEBFBC70#32,
      0x289B7EC6#32, 0xEAA127FA#32, 0xD4EF3085#32, 0x04881D05#32,
      0xD9D4D039#32, 0xE6DB99E5#32, 0x1FA27CF8#32, 0xC4AC5665#32] ++
    [0xF4292244#32, 0x432AFF97#32, 0xAB9423A7#32, 0xFC93A039#32,
      0x655B59C3#32, 0x8F0CCC92#32, 0xFFEFF47D#32, 0x85845DD1#32,
      0x6FA87E4F#32, 0xFE2CE6E0#32, 0xA3014314#32, 0x4E0811A1#32,
      0xF7537E82#32, 0xBD3AF235#32, 0x2AD7D2BB#32, 0xEB86D391#32]
  let amount (i : Nat) : Nat :=
    (if i < 16 then [7, 12, 17, 22] else if i < 32 then [5, 9, 14, 20] else if i < 48 then [4, 11, 16, 23]
      else [6, 10, 15, 21]).getD (i % 4) 0
  (∀ i < 64, roundConstant i = k.getD i 0#32 ∧ rotationAmount i = amount i) ∧
  ∀ x y : Word,
    let w : List Half := [x.extractLsb' 32 32, x.extractLsb' 0 32, y.extractLsb' 32 32, y.extractLsb' 0 32]
    let r := (List.range 64).foldl
      (fun (q : Half × Half × Half × Half) i =>
        let (a, b, c, d) := q
        let f := if i < 16 then (b &&& c) ||| (~~~b &&& d) else if i < 32 then (d &&& b) ||| (~~~d &&& c)
          else if i < 48 then b ^^^ c ^^^ d else c ^^^ (b ||| ~~~d)
        let g := if i < 16 then i else if i < 32 then (5 * i + 1) % 16 else if i < 48 then (3 * i + 5) % 16
          else (7 * i) % 16
        let m := a + f + k.getD i 0#32 + (w ++ w ++ w ++ w).getD g 0#32
        (d, b + m.rotateLeft (amount i), b, c))
      (0x67452301#32, 0xEFCDAB89#32, 0x98BADCFE#32, 0x10325476#32)
    tagAlg x y = (r.1 ^^^ r.2.1) ++ (r.2.2.1 ^^^ r.2.2.2)

/-- R114, R141: however many iterations a unit has done, those that are left lead to the same result. -/
def Obligations.UnitScheduleIsNotObservable : Prop :=
  ∀ (n : Nat) (op : BitVec 2) (a b : Word), inDomain op a b →
    workResult a b (workRun a b n (startWork op a b)) = commandResult op a b

/-! ## Invariants and whole-machine rules -/

/-- R43, R44: the invariants hold at reset, whatever the host is going to present. That the working state is empty and the
count of cycles 0 at reset are the model's choices (log 3, log 7). -/
def Obligations.InvariantsHoldAtReset : Prop :=
  ∀ ps : List PortCycle, StateInv { State.reset with inbox := ps } ∧ ResultLegal { State.reset with inbox := ps }

/-- R44: every step keeps the invariants. -/
def Obligations.StepKeepsInvariants : Prop :=
  ∀ s t : State, StateInv s → step s = .next t → StateInv t

/-- R33, R44 item 6: what RESULT is after any run of atomic events, by the last completion or reset among them. With
neither, it is what it was; after a reset, 0; after a completion, the result of the command in flight, which is either
the one latched where the run starts, or the one of the accepted CMD write of this run, on OPA and OPB as they stood at
it. -/
def Obligations.ResultIsThatOfLastCompletion : Prop :=
  ∀ (es : List Event) (s u : State), EventRun es s u →
    (OnlyTransactions es ∧ u.result = s.result) ∨
    (∃ fs gs, es = fs ++ .reset :: gs ∧ OnlyTransactions gs ∧ u.result = 0#64) ∨
    (∃ fs gs, es = fs ++ .completion :: gs ∧ OnlyTransactions fs ∧ OnlyTransactions gs ∧
      s.pend = true ∧ commandResult s.op s.a s.b = some u.result) ∨
    (∃ fs r gs hs v, es = fs ++ .transaction r :: gs ++ .completion :: hs ∧ OnlyTransactions gs ∧ OnlyTransactions hs ∧
      EventRun fs s v ∧ v.pend = false ∧ WritesSlot .cmd r ∧ Acceptable r.wdata v ∧
      commandResult (opField r.wdata) v.opa v.opb = some u.result)

/-- R160, R196: where the invariants hold, a step has a next state: no fault, no refusal. -/
def Obligations.StepNeverStopsUnderInvariants : Prop :=
  ∀ s : State, StateInv s → ∃ t, step s = .next t

/-- R196: from reset, whatever the host presents and however long, the machine never stops. -/
def Obligations.RunsFromResetNeverStop : Prop :=
  ∀ (ps : List PortCycle) (n : Nat), ∃ t, Runs n { State.reset with inbox := ps } t ∧ StateInv t ∧ ResultLegal t

/-- R21: what takes the block from IDLE to BUSY and from BUSY to IDLE. -/
def Obligations.BusyBeginsAndEndsAsStated : Prop :=
  ∀ s t : State, step s = .next t →
    (s.pend = false → t.pend = true → ∃ r, Presents s r ∧ WritesSlot .cmd r ∧ Acceptable r.wdata s) ∧
    (s.pend = true → t.pend = false → ResetsNext s ∨
      (t.done = true ∧ t.err = false ∧ commandResult s.op s.a s.b = some t.result))

/-- R33: RESULT changes only at a successful completion or at reset. -/
def Obligations.ResultChangesOnlyAtCompletion : Prop :=
  ∀ s t : State, step s = .next t → t.result ≠ s.result →
    ResetsNext s ∨ (s.pend = true ∧ t.pend = false ∧ t.done = true ∧ t.err = false ∧
      commandResult s.op s.a s.b = some t.result)

/-- R157: from the accept to the completion the latched op and operands are fixed, LASTOP and RESULT with them: no
transaction changes them or ends the command. -/
def Obligations.LatchIsFixedWhileBusy : Prop :=
  ∀ (rs : List BusRequest) (s t : State), s.pend = true → EventRun (rs.map Event.transaction) s t →
    t.pend = true ∧ t.op = s.op ∧ t.a = s.a ∧ t.b = s.b ∧ t.lastop = s.lastop ∧ t.result = s.result

/-- R29: OVR is set only by a CMD write while BUSY, and cleared only by writing 1 to STATUS bit 3 or by reset. -/
def Obligations.OverrunFlagIsSticky : Prop :=
  ∀ s t : State, step s = .next t →
    (s.ovr = false → t.ovr = true → s.pend = true ∧ ∃ r, Presents s r ∧ WritesSlot .cmd r) ∧
    (s.ovr = true → t.ovr = false → ResetsNext s ∨
      ∃ r, Presents s r ∧ WritesSlot .status r ∧ r.wdata.getLsbD 3 = true)

/-- R44 item 4: ERR = 1 with DONE = 0 arises only from a STATUS write that clears DONE and not ERR. -/
def Obligations.ErrWithoutDoneOnlyByClearingDone : Prop :=
  ∀ s t : State, step s = .next t → t.err = true → t.done = false →
    (s.err = true ∧ s.done = false) ∨
    (s.err = true ∧ ∃ r, Presents s r ∧ WritesSlot .status r ∧ r.wdata.getLsbD 1 = true ∧ r.wdata.getLsbD 2 = false)

/-- R185: what makes `irq` rise, and what makes it fall. -/
def Obligations.InterruptChangesOnlyAsStated : Prop :=
  ∀ s t : State, step s = .next t →
    (irq s = false → irq t = true →
      (s.pend = true ∧ t.pend = false) ∨
      (∃ r, Presents s r ∧ WritesSlot .cmd r ∧ s.pend = false ∧ ¬ Acceptable r.wdata s) ∨
      (∃ r, Presents s r ∧ WritesSlot .ctrl r ∧ r.wdata.getLsbD 0 = true)) ∧
    (irq s = true → irq t = false →
      ResetsNext s ∨
      (∃ r, Presents s r ∧ WritesSlot .status r ∧ r.wdata.getLsbD 1 = true) ∨
      (∃ r, Presents s r ∧ WritesSlot .ctrl r ∧ r.wdata.getLsbD 0 = false) ∨
      (∃ r, Presents s r ∧ WritesSlot .cmd r ∧ s.pend = false ∧ Acceptable r.wdata s))

/-- R22, R23, R38, R152, R153: whatever the host does while a command is in flight, short of reset, the result is the
command's own, of the operands at its accept. -/
def Obligations.CompletionUsesLatchedOperands : Prop :=
  ∀ (rs : List BusRequest) (s t : State), s.pend = true →
    EventRun (rs.map Event.transaction ++ [Event.completion]) s t →
      commandResult s.op s.a s.b = some t.result ∧ t.pend = false ∧ t.done = true ∧ t.err = false

/-- R72: DONE = 1 after a CMD write belongs to that command (a); ERR = 1 leaves the old RESULT (c); ERR = 0 leaves the
command's result (b). Clause (b) alone has a premise, which is the model's reading: no STATUS write in between clears ERR
and not DONE, since after a rejected command it would leave DONE = 1, ERR = 0 and the old RESULT (log 17). -/
def Obligations.DoneBelongsToLastCommand : Prop :=
  ∀ (w : Word) (es : List Event) (s t u : State), s.pend = false →
    present (cmdRequest w) s = .next t → EventRun es t u →
    (∀ e ∈ es, e ≠ .reset ∧ ∀ r, e = .transaction r → ¬ WritesSlot .cmd r) →
    u.done = true →
      (u.pend = false ∧ u.lastop = opField w) ∧
      ((∀ r, Event.transaction r ∈ es → WritesSlot .status r → ¬ ClearsErrAlone r.wdata) → u.err = false →
        Acceptable w s ∧ commandResult (opField w) s.opa s.opb = some u.result) ∧
      (u.err = true → ¬ Acceptable w s ∧ u.result = s.result)

/-- R8, R160, R212: an accepted command is in flight for exactly LATENCY cycles, whatever the host presents short of
reset, and then completes with its result; until then RESULT is the old one. -/
def Obligations.CommandCompletesAfterLatency : Prop :=
  ∀ s t : State, s.pend = false → step s = .next t → t.pend = true → NoResetAhead t →
    (∀ k, k < Config.latency t.op t.a t.b → ∃ u, Runs k t u ∧ u.pend = true ∧ u.result = t.result) ∧
    (∃ u, Runs (Config.latency t.op t.a t.b) t u ∧ u.pend = false ∧ u.done = true ∧ u.err = false ∧
      u.errcode = 0#4 ∧ u.lastop = t.lastop ∧ commandResult t.op t.a t.b = some u.result)

/-- R214: a CMD write in the cycle after an accept is an overrun, for every value of LATENCY. -/
def Obligations.NextCycleCmdWriteOverruns : Prop :=
  ∀ (s t : State) (r : BusRequest), s.pend = false → step s = .next t → t.pend = true →
    Presents t r → WritesSlot .cmd r →
      ∃ u, step t = .next u ∧ u.ovr = true ∧ u.lastop = t.lastop ∧ u.op = t.op ∧ u.a = t.a ∧ u.b = t.b

/-- R69, R70: every run of clock cycles is an interleaving of atomic steps with the same transactions in the same order,
each with the same response, up to the model's clock, the working state and the ports. That one step is one clock cycle
is the model's choice (log 1). -/
def Obligations.ClockedRunsAreInterleavings : Prop :=
  ∀ (n : Nat) (s t : State), Runs n s t →
    ∃ es u, EventRun es s u ∧ arch u = arch t ∧ transactionsOf es = effectiveRequests (s.inbox.take n) ∧
      eventResponses es s = cycleResponses n s
end

