-- ==== Sys2Proof/Laws/State.lean ====
section
/-! SUPPORT. One lemma per field per update of State, each true by rfl. -/

namespace Sys2Proof.Machine

variable (s : State)

@[simp] theorem bookkeep_opa (w : Word) : (bookkeep w s).opa = s.opa := rfl
@[simp] theorem bookkeep_opb (w : Word) : (bookkeep w s).opb = s.opb := rfl
@[simp] theorem bookkeep_done (w : Word) : (bookkeep w s).done = false := rfl
@[simp] theorem bookkeep_err (w : Word) : (bookkeep w s).err = false := rfl
@[simp] theorem bookkeep_ovr (w : Word) : (bookkeep w s).ovr = s.ovr := rfl
@[simp] theorem bookkeep_errcode (w : Word) : (bookkeep w s).errcode = 0#4 := rfl
@[simp] theorem bookkeep_lastop (w : Word) : (bookkeep w s).lastop = opField w := rfl
@[simp] theorem bookkeep_result (w : Word) : (bookkeep w s).result = s.result := rfl
@[simp] theorem bookkeep_ie (w : Word) : (bookkeep w s).ie = s.ie := rfl
@[simp] theorem bookkeep_pend (w : Word) : (bookkeep w s).pend = s.pend := rfl
@[simp] theorem bookkeep_op (w : Word) : (bookkeep w s).op = s.op := rfl
@[simp] theorem bookkeep_a (w : Word) : (bookkeep w s).a = s.a := rfl
@[simp] theorem bookkeep_b (w : Word) : (bookkeep w s).b = s.b := rfl
@[simp] theorem bookkeep_work (w : Word) : (bookkeep w s).work = s.work := rfl
@[simp] theorem bookkeep_elapsed (w : Word) : (bookkeep w s).elapsed = s.elapsed := rfl
@[simp] theorem bookkeep_inbox (w : Word) : (bookkeep w s).inbox = s.inbox := rfl
@[simp] theorem bookkeep_resp (w : Word) : (bookkeep w s).resp = s.resp := rfl

@[simp] theorem setErrorFlags_opa (c : ErrCode) : (setErrorFlags c s).opa = s.opa := rfl
@[simp] theorem setErrorFlags_opb (c : ErrCode) : (setErrorFlags c s).opb = s.opb := rfl
@[simp] theorem setErrorFlags_done (c : ErrCode) : (setErrorFlags c s).done = true := rfl
@[simp] theorem setErrorFlags_err (c : ErrCode) : (setErrorFlags c s).err = true := rfl
@[simp] theorem setErrorFlags_ovr (c : ErrCode) : (setErrorFlags c s).ovr = s.ovr := rfl
@[simp] theorem setErrorFlags_errcode (c : ErrCode) : (setErrorFlags c s).errcode = errCodeBits c := rfl
@[simp] theorem setErrorFlags_lastop (c : ErrCode) : (setErrorFlags c s).lastop = s.lastop := rfl
@[simp] theorem setErrorFlags_result (c : ErrCode) : (setErrorFlags c s).result = s.result := rfl
@[simp] theorem setErrorFlags_ie (c : ErrCode) : (setErrorFlags c s).ie = s.ie := rfl
@[simp] theorem setErrorFlags_pend (c : ErrCode) : (setErrorFlags c s).pend = s.pend := rfl
@[simp] theorem setErrorFlags_op (c : ErrCode) : (setErrorFlags c s).op = s.op := rfl
@[simp] theorem setErrorFlags_a (c : ErrCode) : (setErrorFlags c s).a = s.a := rfl
@[simp] theorem setErrorFlags_b (c : ErrCode) : (setErrorFlags c s).b = s.b := rfl
@[simp] theorem setErrorFlags_work (c : ErrCode) : (setErrorFlags c s).work = s.work := rfl
@[simp] theorem setErrorFlags_elapsed (c : ErrCode) : (setErrorFlags c s).elapsed = s.elapsed := rfl
@[simp] theorem setErrorFlags_inbox (c : ErrCode) : (setErrorFlags c s).inbox = s.inbox := rfl
@[simp] theorem setErrorFlags_resp (c : ErrCode) : (setErrorFlags c s).resp = s.resp := rfl

@[simp] theorem setDoneFlags_opa : (setDoneFlags s).opa = s.opa := rfl
@[simp] theorem setDoneFlags_opb : (setDoneFlags s).opb = s.opb := rfl
@[simp] theorem setDoneFlags_done : (setDoneFlags s).done = true := rfl
@[simp] theorem setDoneFlags_err : (setDoneFlags s).err = false := rfl
@[simp] theorem setDoneFlags_ovr : (setDoneFlags s).ovr = s.ovr := rfl
@[simp] theorem setDoneFlags_errcode : (setDoneFlags s).errcode = 0#4 := rfl
@[simp] theorem setDoneFlags_lastop : (setDoneFlags s).lastop = s.lastop := rfl
@[simp] theorem setDoneFlags_result : (setDoneFlags s).result = s.result := rfl
@[simp] theorem setDoneFlags_ie : (setDoneFlags s).ie = s.ie := rfl
@[simp] theorem setDoneFlags_pend : (setDoneFlags s).pend = s.pend := rfl
@[simp] theorem setDoneFlags_op : (setDoneFlags s).op = s.op := rfl
@[simp] theorem setDoneFlags_a : (setDoneFlags s).a = s.a := rfl
@[simp] theorem setDoneFlags_b : (setDoneFlags s).b = s.b := rfl
@[simp] theorem setDoneFlags_work : (setDoneFlags s).work = s.work := rfl
@[simp] theorem setDoneFlags_elapsed : (setDoneFlags s).elapsed = s.elapsed := rfl
@[simp] theorem setDoneFlags_inbox : (setDoneFlags s).inbox = s.inbox := rfl
@[simp] theorem setDoneFlags_resp : (setDoneFlags s).resp = s.resp := rfl

@[simp] theorem setOverrun_opa : (setOverrun s).opa = s.opa := rfl
@[simp] theorem setOverrun_opb : (setOverrun s).opb = s.opb := rfl
@[simp] theorem setOverrun_done : (setOverrun s).done = s.done := rfl
@[simp] theorem setOverrun_err : (setOverrun s).err = s.err := rfl
@[simp] theorem setOverrun_ovr : (setOverrun s).ovr = true := rfl
@[simp] theorem setOverrun_errcode : (setOverrun s).errcode = s.errcode := rfl
@[simp] theorem setOverrun_lastop : (setOverrun s).lastop = s.lastop := rfl
@[simp] theorem setOverrun_result : (setOverrun s).result = s.result := rfl
@[simp] theorem setOverrun_ie : (setOverrun s).ie = s.ie := rfl
@[simp] theorem setOverrun_pend : (setOverrun s).pend = s.pend := rfl
@[simp] theorem setOverrun_op : (setOverrun s).op = s.op := rfl
@[simp] theorem setOverrun_a : (setOverrun s).a = s.a := rfl
@[simp] theorem setOverrun_b : (setOverrun s).b = s.b := rfl
@[simp] theorem setOverrun_work : (setOverrun s).work = s.work := rfl
@[simp] theorem setOverrun_elapsed : (setOverrun s).elapsed = s.elapsed := rfl
@[simp] theorem setOverrun_inbox : (setOverrun s).inbox = s.inbox := rfl
@[simp] theorem setOverrun_resp : (setOverrun s).resp = s.resp := rfl

@[simp] theorem writeStatus_opa (v : Word) : (writeStatus v s).opa = s.opa := rfl
@[simp] theorem writeStatus_opb (v : Word) : (writeStatus v s).opb = s.opb := rfl
@[simp] theorem writeStatus_done (v : Word) : (writeStatus v s).done = (s.done && !v.getLsbD 1) := rfl
@[simp] theorem writeStatus_err (v : Word) : (writeStatus v s).err = (s.err && !v.getLsbD 2) := rfl
@[simp] theorem writeStatus_ovr (v : Word) : (writeStatus v s).ovr = (s.ovr && !v.getLsbD 3) := rfl
@[simp] theorem writeStatus_errcode (v : Word) : (writeStatus v s).errcode = (if v.getLsbD 2 then 0#4 else s.errcode) := rfl
@[simp] theorem writeStatus_lastop (v : Word) : (writeStatus v s).lastop = s.lastop := rfl
@[simp] theorem writeStatus_result (v : Word) : (writeStatus v s).result = s.result := rfl
@[simp] theorem writeStatus_ie (v : Word) : (writeStatus v s).ie = s.ie := rfl
@[simp] theorem writeStatus_pend (v : Word) : (writeStatus v s).pend = s.pend := rfl
@[simp] theorem writeStatus_op (v : Word) : (writeStatus v s).op = s.op := rfl
@[simp] theorem writeStatus_a (v : Word) : (writeStatus v s).a = s.a := rfl
@[simp] theorem writeStatus_b (v : Word) : (writeStatus v s).b = s.b := rfl
@[simp] theorem writeStatus_work (v : Word) : (writeStatus v s).work = s.work := rfl
@[simp] theorem writeStatus_elapsed (v : Word) : (writeStatus v s).elapsed = s.elapsed := rfl
@[simp] theorem writeStatus_inbox (v : Word) : (writeStatus v s).inbox = s.inbox := rfl
@[simp] theorem writeStatus_resp (v : Word) : (writeStatus v s).resp = s.resp := rfl

@[simp] theorem writeCtrl_opa (v : Word) : (writeCtrl v s).opa = s.opa := rfl
@[simp] theorem writeCtrl_opb (v : Word) : (writeCtrl v s).opb = s.opb := rfl
@[simp] theorem writeCtrl_done (v : Word) : (writeCtrl v s).done = s.done := rfl
@[simp] theorem writeCtrl_err (v : Word) : (writeCtrl v s).err = s.err := rfl
@[simp] theorem writeCtrl_ovr (v : Word) : (writeCtrl v s).ovr = s.ovr := rfl
@[simp] theorem writeCtrl_errcode (v : Word) : (writeCtrl v s).errcode = s.errcode := rfl
@[simp] theorem writeCtrl_lastop (v : Word) : (writeCtrl v s).lastop = s.lastop := rfl
@[simp] theorem writeCtrl_result (v : Word) : (writeCtrl v s).result = s.result := rfl
@[simp] theorem writeCtrl_ie (v : Word) : (writeCtrl v s).ie = v.getLsbD 0 := rfl
@[simp] theorem writeCtrl_pend (v : Word) : (writeCtrl v s).pend = s.pend := rfl
@[simp] theorem writeCtrl_op (v : Word) : (writeCtrl v s).op = s.op := rfl
@[simp] theorem writeCtrl_a (v : Word) : (writeCtrl v s).a = s.a := rfl
@[simp] theorem writeCtrl_b (v : Word) : (writeCtrl v s).b = s.b := rfl
@[simp] theorem writeCtrl_work (v : Word) : (writeCtrl v s).work = s.work := rfl
@[simp] theorem writeCtrl_elapsed (v : Word) : (writeCtrl v s).elapsed = s.elapsed := rfl
@[simp] theorem writeCtrl_inbox (v : Word) : (writeCtrl v s).inbox = s.inbox := rfl
@[simp] theorem writeCtrl_resp (v : Word) : (writeCtrl v s).resp = s.resp := rfl

@[simp] theorem latchOperands_opa (k : BitVec 2) : (latchOperands k s).opa = s.opa := rfl
@[simp] theorem latchOperands_opb (k : BitVec 2) : (latchOperands k s).opb = s.opb := rfl
@[simp] theorem latchOperands_done (k : BitVec 2) : (latchOperands k s).done = s.done := rfl
@[simp] theorem latchOperands_err (k : BitVec 2) : (latchOperands k s).err = s.err := rfl
@[simp] theorem latchOperands_ovr (k : BitVec 2) : (latchOperands k s).ovr = s.ovr := rfl
@[simp] theorem latchOperands_errcode (k : BitVec 2) : (latchOperands k s).errcode = s.errcode := rfl
@[simp] theorem latchOperands_lastop (k : BitVec 2) : (latchOperands k s).lastop = s.lastop := rfl
@[simp] theorem latchOperands_result (k : BitVec 2) : (latchOperands k s).result = s.result := rfl
@[simp] theorem latchOperands_ie (k : BitVec 2) : (latchOperands k s).ie = s.ie := rfl
@[simp] theorem latchOperands_pend (k : BitVec 2) : (latchOperands k s).pend = s.pend := rfl
@[simp] theorem latchOperands_op (k : BitVec 2) : (latchOperands k s).op = k := rfl
@[simp] theorem latchOperands_a (k : BitVec 2) : (latchOperands k s).a = s.opa := rfl
@[simp] theorem latchOperands_b (k : BitVec 2) : (latchOperands k s).b = s.opb := rfl
@[simp] theorem latchOperands_work (k : BitVec 2) : (latchOperands k s).work = s.work := rfl
@[simp] theorem latchOperands_elapsed (k : BitVec 2) : (latchOperands k s).elapsed = s.elapsed := rfl
@[simp] theorem latchOperands_inbox (k : BitVec 2) : (latchOperands k s).inbox = s.inbox := rfl
@[simp] theorem latchOperands_resp (k : BitVec 2) : (latchOperands k s).resp = s.resp := rfl

@[simp] theorem respond_opa (d : Word) : (respond d s).opa = s.opa := rfl
@[simp] theorem respond_opb (d : Word) : (respond d s).opb = s.opb := rfl
@[simp] theorem respond_done (d : Word) : (respond d s).done = s.done := rfl
@[simp] theorem respond_err (d : Word) : (respond d s).err = s.err := rfl
@[simp] theorem respond_ovr (d : Word) : (respond d s).ovr = s.ovr := rfl
@[simp] theorem respond_errcode (d : Word) : (respond d s).errcode = s.errcode := rfl
@[simp] theorem respond_lastop (d : Word) : (respond d s).lastop = s.lastop := rfl
@[simp] theorem respond_result (d : Word) : (respond d s).result = s.result := rfl
@[simp] theorem respond_ie (d : Word) : (respond d s).ie = s.ie := rfl
@[simp] theorem respond_pend (d : Word) : (respond d s).pend = s.pend := rfl
@[simp] theorem respond_op (d : Word) : (respond d s).op = s.op := rfl
@[simp] theorem respond_a (d : Word) : (respond d s).a = s.a := rfl
@[simp] theorem respond_b (d : Word) : (respond d s).b = s.b := rfl
@[simp] theorem respond_work (d : Word) : (respond d s).work = s.work := rfl
@[simp] theorem respond_elapsed (d : Word) : (respond d s).elapsed = s.elapsed := rfl
@[simp] theorem respond_inbox (d : Word) : (respond d s).inbox = s.inbox := rfl
@[simp] theorem respond_resp (d : Word) : (respond d s).resp = ⟨d, false⟩ := rfl

@[simp] theorem busError_opa : (busError s).opa = s.opa := rfl
@[simp] theorem busError_opb : (busError s).opb = s.opb := rfl
@[simp] theorem busError_done : (busError s).done = s.done := rfl
@[simp] theorem busError_err : (busError s).err = s.err := rfl
@[simp] theorem busError_ovr : (busError s).ovr = s.ovr := rfl
@[simp] theorem busError_errcode : (busError s).errcode = s.errcode := rfl
@[simp] theorem busError_lastop : (busError s).lastop = s.lastop := rfl
@[simp] theorem busError_result : (busError s).result = s.result := rfl
@[simp] theorem busError_ie : (busError s).ie = s.ie := rfl
@[simp] theorem busError_pend : (busError s).pend = s.pend := rfl
@[simp] theorem busError_op : (busError s).op = s.op := rfl
@[simp] theorem busError_a : (busError s).a = s.a := rfl
@[simp] theorem busError_b : (busError s).b = s.b := rfl
@[simp] theorem busError_work : (busError s).work = s.work := rfl
@[simp] theorem busError_elapsed : (busError s).elapsed = s.elapsed := rfl
@[simp] theorem busError_inbox : (busError s).inbox = s.inbox := rfl
@[simp] theorem busError_resp : (busError s).resp = ⟨0#64, true⟩ := rfl

@[simp] theorem noResponse_opa : (noResponse s).opa = s.opa := rfl
@[simp] theorem noResponse_opb : (noResponse s).opb = s.opb := rfl
@[simp] theorem noResponse_done : (noResponse s).done = s.done := rfl
@[simp] theorem noResponse_err : (noResponse s).err = s.err := rfl
@[simp] theorem noResponse_ovr : (noResponse s).ovr = s.ovr := rfl
@[simp] theorem noResponse_errcode : (noResponse s).errcode = s.errcode := rfl
@[simp] theorem noResponse_lastop : (noResponse s).lastop = s.lastop := rfl
@[simp] theorem noResponse_result : (noResponse s).result = s.result := rfl
@[simp] theorem noResponse_ie : (noResponse s).ie = s.ie := rfl
@[simp] theorem noResponse_pend : (noResponse s).pend = s.pend := rfl
@[simp] theorem noResponse_op : (noResponse s).op = s.op := rfl
@[simp] theorem noResponse_a : (noResponse s).a = s.a := rfl
@[simp] theorem noResponse_b : (noResponse s).b = s.b := rfl
@[simp] theorem noResponse_work : (noResponse s).work = s.work := rfl
@[simp] theorem noResponse_elapsed : (noResponse s).elapsed = s.elapsed := rfl
@[simp] theorem noResponse_inbox : (noResponse s).inbox = s.inbox := rfl
@[simp] theorem noResponse_resp : (noResponse s).resp = ⟨0#64, false⟩ := rfl

@[simp] theorem raise_opa (c : ErrCode) : (raise c s).opa = s.opa := rfl
@[simp] theorem raise_opb (c : ErrCode) : (raise c s).opb = s.opb := rfl
@[simp] theorem raise_done (c : ErrCode) : (raise c s).done = true := rfl
@[simp] theorem raise_err (c : ErrCode) : (raise c s).err = true := rfl
@[simp] theorem raise_ovr (c : ErrCode) : (raise c s).ovr = s.ovr := rfl
@[simp] theorem raise_errcode (c : ErrCode) : (raise c s).errcode = errCodeBits c := rfl
@[simp] theorem raise_lastop (c : ErrCode) : (raise c s).lastop = s.lastop := rfl
@[simp] theorem raise_result (c : ErrCode) : (raise c s).result = s.result := rfl
@[simp] theorem raise_ie (c : ErrCode) : (raise c s).ie = s.ie := rfl
@[simp] theorem raise_pend (c : ErrCode) : (raise c s).pend = s.pend := rfl
@[simp] theorem raise_op (c : ErrCode) : (raise c s).op = s.op := rfl
@[simp] theorem raise_a (c : ErrCode) : (raise c s).a = s.a := rfl
@[simp] theorem raise_b (c : ErrCode) : (raise c s).b = s.b := rfl
@[simp] theorem raise_work (c : ErrCode) : (raise c s).work = s.work := rfl
@[simp] theorem raise_elapsed (c : ErrCode) : (raise c s).elapsed = s.elapsed := rfl
@[simp] theorem raise_inbox (c : ErrCode) : (raise c s).inbox = s.inbox := rfl
@[simp] theorem raise_resp (c : ErrCode) : (raise c s).resp = s.resp := rfl

@[simp] theorem overrun_opa : (overrun s).opa = s.opa := rfl
@[simp] theorem overrun_opb : (overrun s).opb = s.opb := rfl
@[simp] theorem overrun_done : (overrun s).done = s.done := rfl
@[simp] theorem overrun_err : (overrun s).err = s.err := rfl
@[simp] theorem overrun_ovr : (overrun s).ovr = true := rfl
@[simp] theorem overrun_errcode : (overrun s).errcode = s.errcode := rfl
@[simp] theorem overrun_lastop : (overrun s).lastop = s.lastop := rfl
@[simp] theorem overrun_result : (overrun s).result = s.result := rfl
@[simp] theorem overrun_ie : (overrun s).ie = s.ie := rfl
@[simp] theorem overrun_pend : (overrun s).pend = s.pend := rfl
@[simp] theorem overrun_op : (overrun s).op = s.op := rfl
@[simp] theorem overrun_a : (overrun s).a = s.a := rfl
@[simp] theorem overrun_b : (overrun s).b = s.b := rfl
@[simp] theorem overrun_work : (overrun s).work = s.work := rfl
@[simp] theorem overrun_elapsed : (overrun s).elapsed = s.elapsed := rfl
@[simp] theorem overrun_inbox : (overrun s).inbox = s.inbox := rfl
@[simp] theorem overrun_resp : (overrun s).resp = s.resp := rfl

@[simp] theorem latch_opa (k : BitVec 2) : (latch k s).opa = s.opa := rfl
@[simp] theorem latch_opb (k : BitVec 2) : (latch k s).opb = s.opb := rfl
@[simp] theorem latch_done (k : BitVec 2) : (latch k s).done = s.done := rfl
@[simp] theorem latch_err (k : BitVec 2) : (latch k s).err = s.err := rfl
@[simp] theorem latch_ovr (k : BitVec 2) : (latch k s).ovr = s.ovr := rfl
@[simp] theorem latch_errcode (k : BitVec 2) : (latch k s).errcode = s.errcode := rfl
@[simp] theorem latch_lastop (k : BitVec 2) : (latch k s).lastop = s.lastop := rfl
@[simp] theorem latch_result (k : BitVec 2) : (latch k s).result = s.result := rfl
@[simp] theorem latch_ie (k : BitVec 2) : (latch k s).ie = s.ie := rfl
@[simp] theorem latch_pend (k : BitVec 2) : (latch k s).pend = true := rfl
@[simp] theorem latch_op (k : BitVec 2) : (latch k s).op = k := rfl
@[simp] theorem latch_a (k : BitVec 2) : (latch k s).a = s.opa := rfl
@[simp] theorem latch_b (k : BitVec 2) : (latch k s).b = s.opb := rfl
@[simp] theorem latch_work (k : BitVec 2) : (latch k s).work = startWork k s.opa s.opb := rfl
@[simp] theorem latch_elapsed (k : BitVec 2) : (latch k s).elapsed = 0 := rfl
@[simp] theorem latch_inbox (k : BitVec 2) : (latch k s).inbox = s.inbox := rfl
@[simp] theorem latch_resp (k : BitVec 2) : (latch k s).resp = s.resp := rfl

@[simp] theorem finish_opa (r : Word) : (finish r s).opa = s.opa := rfl
@[simp] theorem finish_opb (r : Word) : (finish r s).opb = s.opb := rfl
@[simp] theorem finish_done (r : Word) : (finish r s).done = true := rfl
@[simp] theorem finish_err (r : Word) : (finish r s).err = false := rfl
@[simp] theorem finish_ovr (r : Word) : (finish r s).ovr = s.ovr := rfl
@[simp] theorem finish_errcode (r : Word) : (finish r s).errcode = 0#4 := rfl
@[simp] theorem finish_lastop (r : Word) : (finish r s).lastop = s.lastop := rfl
@[simp] theorem finish_result (r : Word) : (finish r s).result = r := rfl
@[simp] theorem finish_ie (r : Word) : (finish r s).ie = s.ie := rfl
@[simp] theorem finish_pend (r : Word) : (finish r s).pend = false := rfl
@[simp] theorem finish_op (r : Word) : (finish r s).op = s.op := rfl
@[simp] theorem finish_a (r : Word) : (finish r s).a = s.a := rfl
@[simp] theorem finish_b (r : Word) : (finish r s).b = s.b := rfl
@[simp] theorem finish_work (r : Word) : (finish r s).work = .idle := rfl
@[simp] theorem finish_elapsed (r : Word) : (finish r s).elapsed = 0 := rfl
@[simp] theorem finish_inbox (r : Word) : (finish r s).inbox = s.inbox := rfl
@[simp] theorem finish_resp (r : Word) : (finish r s).resp = s.resp := rfl

@[simp] theorem applyReset_opa : (applyReset s).opa = State.reset.opa := rfl
@[simp] theorem applyReset_opb : (applyReset s).opb = State.reset.opb := rfl
@[simp] theorem applyReset_done : (applyReset s).done = State.reset.done := rfl
@[simp] theorem applyReset_err : (applyReset s).err = State.reset.err := rfl
@[simp] theorem applyReset_ovr : (applyReset s).ovr = State.reset.ovr := rfl
@[simp] theorem applyReset_errcode : (applyReset s).errcode = State.reset.errcode := rfl
@[simp] theorem applyReset_lastop : (applyReset s).lastop = State.reset.lastop := rfl
@[simp] theorem applyReset_result : (applyReset s).result = State.reset.result := rfl
@[simp] theorem applyReset_ie : (applyReset s).ie = State.reset.ie := rfl
@[simp] theorem applyReset_pend : (applyReset s).pend = State.reset.pend := rfl
@[simp] theorem applyReset_op : (applyReset s).op = State.reset.op := rfl
@[simp] theorem applyReset_a : (applyReset s).a = State.reset.a := rfl
@[simp] theorem applyReset_b : (applyReset s).b = State.reset.b := rfl
@[simp] theorem applyReset_work : (applyReset s).work = State.reset.work := rfl
@[simp] theorem applyReset_elapsed : (applyReset s).elapsed = State.reset.elapsed := rfl
@[simp] theorem applyReset_inbox : (applyReset s).inbox = s.inbox := rfl
@[simp] theorem applyReset_resp : (applyReset s).resp = State.reset.resp := rfl

@[simp] theorem reset_opa : State.reset.opa = 0#64 := rfl
@[simp] theorem reset_opb : State.reset.opb = 0#64 := rfl
@[simp] theorem reset_done : State.reset.done = false := rfl
@[simp] theorem reset_err : State.reset.err = false := rfl
@[simp] theorem reset_ovr : State.reset.ovr = false := rfl
@[simp] theorem reset_errcode : State.reset.errcode = 0#4 := rfl
@[simp] theorem reset_lastop : State.reset.lastop = 0#2 := rfl
@[simp] theorem reset_result : State.reset.result = 0#64 := rfl
@[simp] theorem reset_ie : State.reset.ie = false := rfl
@[simp] theorem reset_pend : State.reset.pend = false := rfl
@[simp] theorem reset_op : State.reset.op = 0#2 := rfl
@[simp] theorem reset_a : State.reset.a = 0#64 := rfl
@[simp] theorem reset_b : State.reset.b = 0#64 := rfl
@[simp] theorem reset_work : State.reset.work = .idle := rfl
@[simp] theorem reset_elapsed : State.reset.elapsed = 0 := rfl
@[simp] theorem reset_inbox : State.reset.inbox = [] := rfl
@[simp] theorem reset_resp : State.reset.resp = ⟨0#64, false⟩ := rfl

end Sys2Proof.Machine
end

