-- ==== Sys2Proof/Laws/Ops.lean ====
section
/-! SUPPORT. For each shared operation, one lemma that says everything it can do. -/

namespace Sys2Proof.Machine

variable {s t : State}

theorem andThen_next {o : Host.Outcome State Fault Refusal} {f : State → Host.Outcome State Fault Refusal} :
    andThen o f = .next t ↔ ∃ u, o = .next u ∧ f u = .next t := by
  cases o <;> simp [andThen]

@[simp] theorem slotOf_offsetOf (k : Slot) : slotOf (offsetOf k) = k := by cases k <;> rfl

@[simp] theorem aligned_offsetOf (k : Slot) : aligned (offsetOf k) = true := by cases k <;> rfl

theorem decodeBus_error_iff {r : BusRequest} {e : DecodeError} :
    decodeBus r = .error e ↔ aligned r.addr = false ∧ e = .misaligned := by
  unfold decodeBus
  cases aligned r.addr <;> cases r.we <;> simp [eq_comm]

theorem decodeBus_ok_iff {r : BusRequest} {i : Instr} :
    decodeBus r = .ok i ↔
      aligned r.addr = true ∧ i = if r.we then .busWrite r.addr r.wdata else .busRead r.addr := by
  unfold decodeBus
  cases aligned r.addr <;> cases r.we <;> simp [eq_comm]

/-- What follows the bookkeeping of an accept: an error completion, or the latch of a legal op. -/
theorem acceptWord_cases (w : Word) (s : State) :
    (decodeCmd w = .error .illegalCmd ∧ acceptWord w s = raise .illegalCmd s) ∨
    (decodeCmd w = .ok .mulmod ∧ acceptWord w s = acceptMulmod s) ∨
    (decodeCmd w = .ok .powmod ∧ acceptWord w s = acceptPowmod s) ∨
    (decodeCmd w = .ok .tag ∧ acceptWord w s = acceptTag s) := by
  unfold acceptWord decodeCmd
  split_ifs <;> simp

theorem acceptMulmod_cases (s : State) :
    (outOfRange s = true ∧ acceptMulmod s = raise .operandRange s) ∨
    (outOfRange s = false ∧ acceptMulmod s = latch 0#2 s) := by
  unfold acceptMulmod
  cases outOfRange s <;> simp

theorem acceptPowmod_cases (s : State) :
    (zeroExponent s = true ∧ acceptPowmod s = raise .expZero s) ∨
    (zeroExponent s = false ∧ acceptPowmod s = latch 1#2 s) := by
  unfold acceptPowmod
  cases zeroExponent s <;> simp

theorem issue_busy {w : Word} {f : State → State} (h : s.pend = true) : issue w f s = overrun s := by
  simp [issue, h]

theorem issue_idle {w : Word} {f : State → State} (h : s.pend = false) : issue w f s = f (bookkeep w s) := by
  simp [issue, h]

/-- The completion of the command in flight gives RESULT the value of `commandResult`. -/
theorem complete_next_iff : complete s = .next t ↔ ∃ r, commandResult s.op s.a s.b = some r ∧ t = finish r s := by
  unfold complete commandResult completeMulmod completePowmod completeTag
  split
  · simp [eq_comm]
  · cases powmodAlg s.a s.b <;> simp [eq_comm]
  · simp [eq_comm]
  · simp

/-- The core's part of a cycle: nothing, the completion, or one more cycle of work. -/
theorem coreCycle_cases {inFlight : Bool} (h : coreCycle inFlight s = .next t) :
    (inFlight = false ∧ t = s) ∨
    (inFlight = true ∧ Config.latency s.op s.a s.b ≤ s.elapsed + 1 ∧ complete s = .next t) ∨
    (inFlight = true ∧ s.elapsed + 1 < Config.latency s.op s.a s.b ∧
      t = { s with
        elapsed := s.elapsed + 1
        work := workRun s.a s.b (Config.unitSteps s.op s.a s.b s.elapsed) s.work }) := by
  unfold coreCycle at h
  split_ifs at h with h₁ h₂
  · exact .inr (.inl ⟨h₁, h₂, h⟩)
  · simp only [Host.Outcome.next.injEq] at h
    exact .inr (.inr ⟨h₁, by omega, h.symm⟩)
  · simp only [Host.Outcome.next.injEq] at h
    exact .inl ⟨by simpa using h₁, h.symm⟩

end Sys2Proof.Machine
end

