-- ==== Sys2Proof/Laws/PerInstr.lean ====
section
/-! SUPPORT. The family of per-instruction laws named in LAWS.json: what the decoder gives is well-formed. -/

namespace Sys2Proof.Laws.DecodedIsWellFormed

/-- Every code that decodes to the instruction decodes to a well-formed one. -/
def Statement (i : Instr) : Prop := ∀ c : Code, decode c = .ok i → wellFormed i = true

theorem busRead (addr : Offset) : Statement (.busRead addr) := by
  intro c h
  cases c with
  | bus r =>
    simp only [decode, decodeBus] at h
    split at h <;> try contradiction
    split at h <;> simp_all [wellFormed]
  | cmd w =>
    simp only [decode, decodeCmd] at h
    split_ifs at h <;> simp_all

theorem busWrite (addr : Offset) (wdata : Word) : Statement (.busWrite addr wdata) := by
  intro c h
  cases c with
  | bus r =>
    simp only [decode, decodeBus] at h
    split at h <;> try contradiction
    split at h <;> simp_all [wellFormed]
  | cmd w =>
    simp only [decode, decodeCmd] at h
    split_ifs at h <;> simp_all

theorem mulmod : Statement .mulmod := fun _ _ => rfl

theorem powmod : Statement .powmod := fun _ _ => rfl

theorem tag : Statement .tag := fun _ _ => rfl

end Sys2Proof.Laws.DecodedIsWellFormed
end

