-- ==== Sys2Proof/Laws/Step.lean ====
section
/-! SUPPORT. What one transaction and one step can do, said once; and how runs and event runs compose. -/

namespace Sys2Proof.Machine

variable {s t : State}

/-- A transaction leads to a next state: a bus error, a read's response, or a write's effect and its response. -/
theorem present_cases (r : BusRequest) (s : State) :
    (aligned r.addr = false ∧ present r s = .next (busError s)) ∨
    (aligned r.addr = true ∧ r.we = false ∧
      present r s = .next (respond (readSlot (slotOf r.addr) s) s)) ∨
    (aligned r.addr = true ∧ r.we = true ∧
      present r s = .next (respond 0#64 (writeSlot (slotOf r.addr) r.wdata s))) := by
  unfold present decodeBus
  cases h : aligned r.addr <;> cases h' : r.we <;> simp [exec, execBusRead, execBusWrite, h]

/-- Every transaction leads to a next state. -/
theorem present_next (r : BusRequest) (s : State) : ∃ u, present r s = .next u := by
  rcases present_cases r s with ⟨_, h⟩ | ⟨_, _, h⟩ | ⟨_, _, h⟩ <;> exact ⟨_, h⟩

theorem hostCycle_next (req : Option BusRequest) (s : State) : ∃ u, hostCycle req s = .next u := by
  cases req with
  | none => exact ⟨_, rfl⟩
  | some r => exact present_next r s

/-- One step: an idle cycle, a reset, or a cycle with its port sample. -/
theorem step_cases (h : step s = .next t) :
    (s.inbox = [] ∧ clockCycle none s = .next t) ∨
    (∃ p rest, s.inbox = p :: rest ∧ p.rst = true ∧ t = applyReset { s with inbox := rest }) ∨
    (∃ p rest, s.inbox = p :: rest ∧ p.rst = false ∧ clockCycle p.req { s with inbox := rest } = .next t) := by
  unfold step at h
  split at h
  · next hi => exact .inl ⟨hi, h⟩
  · next p rest hi =>
    split_ifs at h with hr
    · simp only [Host.Outcome.next.injEq] at h
      exact .inr (.inl ⟨p, rest, hi, hr, h.symm⟩)
    · exact .inr (.inr ⟨p, rest, hi, by simpa using hr, h⟩)

theorem clockCycle_next {req : Option BusRequest} :
    clockCycle req s = .next t ↔ ∃ u, hostCycle req s = .next u ∧ coreCycle s.pend u = .next t :=
  andThen_next

end Sys2Proof.Machine

namespace Sys2Proof.Safety

open Sys2Proof.Machine

theorem eventRun_append {es fs : List Event} {s t u : State} (h : EventRun es s t) (h' : EventRun fs t u) :
    EventRun (es ++ fs) s u := by
  induction h with
  | nil => exact h'
  | cons e es s t v ho _ ih => exact .cons e _ _ _ _ ho (ih h')

theorem eventResponses_transaction {r : BusRequest} {s t : State} (h : present r s = .next t) (es : List Event) :
    eventResponses (.transaction r :: es) s = t.resp :: eventResponses es t := by
  simp only [eventResponses, h, responsesAfter]

theorem eventResponses_completion {s t : State} (h : complete s = .next t) (es : List Event) :
    eventResponses (.completion :: es) s = eventResponses es t := by
  simp only [eventResponses, h, responsesAfter]

theorem eventResponses_reset (s : State) (es : List Event) :
    eventResponses (.reset :: es) s = eventResponses es (applyReset s) := rfl

theorem cycleResponses_succ {s t : State} (h : step s = .next t) (n : Nat) :
    cycleResponses (n + 1) s = (effectiveRequests (s.inbox.take 1)).map (fun _ => t.resp) ++ cycleResponses n t := by
  simp only [cycleResponses, h, responsesAfter]

/-- Events in a row show the responses of the first and then those of the rest. -/
theorem eventResponses_append {es fs : List Event} {s t : State} (h : EventRun es s t) :
    eventResponses (es ++ fs) s = eventResponses es s ++ eventResponses fs t := by
  induction h with
  | nil => rfl
  | cons e es s t u ho _ ih =>
    cases e with
    | transaction r => simp only [List.cons_append, eventResponses_transaction ho, ih]
    | completion => simp only [List.cons_append, eventResponses_completion ho.2, ih]
    | reset => obtain rfl : t = applyReset s := ho; exact ih

theorem runs_add {m n : Nat} {s t u : State} (h : Runs m s t) (h' : Runs n t u) : Runs (m + n) s u := by
  induction h with
  | zero => simpa using h'
  | succ k s v w hs _ ih =>
    rw [Nat.add_right_comm]
    exact .succ _ _ _ _ hs (ih h')

end Sys2Proof.Safety

namespace Sys2Proof.Safety

open Sys2Proof.Machine

variable {s t : State}

theorem decodeCmd_mulmod_iff {w : Word} : decodeCmd w = .ok .mulmod ↔ rsvdField w = 0#62 ∧ opField w = 0#2 := by
  unfold decodeCmd; split_ifs <;> simp_all

theorem decodeCmd_powmod_iff {w : Word} : decodeCmd w = .ok .powmod ↔ rsvdField w = 0#62 ∧ opField w = 1#2 := by
  unfold decodeCmd; split_ifs <;> simp_all

theorem decodeCmd_tag_iff {w : Word} : decodeCmd w = .ok .tag ↔ rsvdField w = 0#62 ∧ opField w = 2#2 := by
  unfold decodeCmd; split_ifs <;> simp_all

theorem not_acceptable_of_illegal {w : Word} (h : decodeCmd w = .error .illegalCmd) (s : State) :
    ¬ Acceptable w s := by
  rintro ⟨hr, ⟨ho, _⟩ | ⟨ho, _⟩ | ho⟩
  · rw [decodeCmd_mulmod_iff.2 ⟨hr, ho⟩] at h; cases h
  · rw [decodeCmd_powmod_iff.2 ⟨hr, ho⟩] at h; cases h
  · rw [decodeCmd_tag_iff.2 ⟨hr, ho⟩] at h; cases h

theorem outOfRange_eq_false {s : State} :
    outOfRange s = false ↔ s.opa < Config.modulus ∧ s.opb < Config.modulus := by
  simp [outOfRange]

/-- A CMD write overruns, is rejected with an error completion, or is latched; the last exactly when the word and the
operands are acceptable. -/
theorem writeCmd_cases (w : Word) (s : State) :
    (s.pend = true ∧ writeCmd w s = overrun s) ∨
    (s.pend = false ∧ ¬ Acceptable w s ∧ ∃ c, writeCmd w s = raise c (bookkeep w s)) ∨
    (s.pend = false ∧ Acceptable w s ∧ writeCmd w s = latch (opField w) (bookkeep w s)) := by
  cases hp : s.pend
  · right
    rw [writeCmd, issue_idle hp]
    rcases acceptWord_cases w (bookkeep w s) with ⟨hd, h⟩ | ⟨hd, h⟩ | ⟨hd, h⟩ | ⟨hd, h⟩ <;> rw [h]
    · exact .inl ⟨rfl, not_acceptable_of_illegal hd s, _, rfl⟩
    · obtain ⟨hr, ho⟩ := decodeCmd_mulmod_iff.1 hd
      rcases acceptMulmod_cases (bookkeep w s) with ⟨hc, e⟩ | ⟨hc, e⟩ <;> rw [e]
      · refine .inl ⟨rfl, ?_, _, rfl⟩
        rintro ⟨_, ⟨_, ha, hb⟩ | ⟨h1, _⟩ | h1⟩
        · rw [outOfRange_eq_false (s := bookkeep w s) |>.2 ⟨ha, hb⟩] at hc; cases hc
        · rw [ho] at h1; cases h1
        · rw [ho] at h1; cases h1
      · exact .inr ⟨rfl, ⟨hr, .inl ⟨ho, outOfRange_eq_false.1 hc⟩⟩, by rw [ho]⟩
    · obtain ⟨hr, ho⟩ := decodeCmd_powmod_iff.1 hd
      rcases acceptPowmod_cases (bookkeep w s) with ⟨hc, e⟩ | ⟨hc, e⟩ <;> rw [e]
      · refine .inl ⟨rfl, ?_, _, rfl⟩
        rintro ⟨_, ⟨h1, _⟩ | ⟨_, hb⟩ | h1⟩
        · rw [ho] at h1; cases h1
        · exact hb (by simpa [zeroExponent] using hc)
        · rw [ho] at h1; cases h1
      · exact .inr ⟨rfl, ⟨hr, .inr (.inl ⟨ho, by simpa [zeroExponent] using hc⟩)⟩, by rw [ho]⟩
    · obtain ⟨hr, ho⟩ := decodeCmd_tag_iff.1 hd
      exact .inr ⟨rfl, ⟨hr, .inr (.inr ho)⟩, by rw [ho]; rfl⟩
  · exact .inl ⟨rfl, issue_busy hp⟩

/-- The CMD write of a word. -/
theorem present_cmdRequest (w : Word) (s : State) :
    present (cmdRequest w) s = .next (respond 0#64 (writeCmd w s)) := by
  rcases present_cases (cmdRequest w) s with ⟨h, _⟩ | ⟨_, h, _⟩ | ⟨_, _, h⟩
  · simp [cmdRequest] at h
  · simp [cmdRequest] at h
  · simpa [cmdRequest, writeSlot] using h

/-- States of one `arch` differ at most in the fields it leaves out. -/
theorem arch_eq {s t : State} (h : arch s = arch t) :
    t = { s with work := t.work, elapsed := t.elapsed, inbox := t.inbox, resp := t.resp } := by
  cases s; cases t
  simp only [arch, State.mk.injEq] at h ⊢
  simp_all

/-- Everything a transaction can do, by what it writes. -/
theorem present_effect {r : BusRequest} {u : State} (h : present r s = .next u) :
    ((∀ k, WritesSlot k r → k = .result ∨ k = .modulus ∨ k = .reserved) ∧ ∃ d e, u = { s with resp := ⟨d, e⟩ }) ∨
    (WritesSlot .opa r ∧ u = respond 0#64 { s with opa := r.wdata }) ∨
    (WritesSlot .opb r ∧ u = respond 0#64 { s with opb := r.wdata }) ∨
    (WritesSlot .status r ∧ u = respond 0#64 (writeStatus r.wdata s)) ∨
    (WritesSlot .ctrl r ∧ u = respond 0#64 (writeCtrl r.wdata s)) ∨
    (WritesSlot .cmd r ∧ u = respond 0#64 (writeCmd r.wdata s)) := by
  rcases present_cases r s with ⟨ha, e⟩ | ⟨ha, hw, e⟩ | ⟨ha, hw, e⟩ <;> rw [e] at h <;> cases h
  · exact .inl ⟨fun k hk => by simp [WritesSlot, ha] at hk, _, _, rfl⟩
  · exact .inl ⟨fun k hk => by simp [WritesSlot, hw] at hk, _, _, rfl⟩
  · have hk : WritesSlot (slotOf r.addr) r := ⟨hw, ha, rfl⟩
    have only : ∀ k, WritesSlot k r → k = slotOf r.addr := fun k hk => hk.2.2.symm
    cases hs : slotOf r.addr <;> rw [hs] at hk only
    · exact .inr (.inl ⟨hk, rfl⟩)
    · exact .inr (.inr (.inl ⟨hk, rfl⟩))
    · exact .inr (.inr (.inr (.inr (.inr ⟨hk, rfl⟩))))
    · exact .inr (.inr (.inr (.inl ⟨hk, rfl⟩)))
    · exact .inl ⟨fun k hk => .inl (only k hk), _, _, rfl⟩
    · exact .inr (.inr (.inr (.inr (.inl ⟨hk, rfl⟩))))
    · exact .inl ⟨fun k hk => .inr (.inl (only k hk)), _, _, rfl⟩
    · exact .inl ⟨fun k hk => .inr (.inr (only k hk)), _, _, rfl⟩

end Sys2Proof.Safety
end

