-- ==== Sys2Proof/Machine/HostScript.lean ====
section
/-! DEFINITION. Host scripts (30_encoding.md R89 to R95): their statements, the pseudo-instructions, and a host that runs
one against the block. The host is outside the block (R12): nothing here is part of the block's state or step. Log 14. -/

namespace Sys2Proof.Machine

/-- A value or expression of a host script: a constant, a host variable `%name`, or an operation on two (R89, R90). R90
leaves open what an `expr` may be; DESIGN CHOICE: these (log 14). -/
inductive HostExpr where
  | const (v : Word)
  | var (name : String)
  | and (x y : HostExpr)
  | or (x y : HostExpr)
  | xor (x y : HostExpr)
  | add (x y : HostExpr)
  | sub (x y : HostExpr)
deriving DecidableEq, Repr

/-- A statement of a host script (R89, R90). R90 does not say whether the mask `m` may be a host variable; DESIGN CHOICE:
it is a 64-bit constant (log 14). -/
inductive HostStmt where
  /-- `wr REG, v`. -/
  | wr (off : Offset) (v : HostExpr)
  /-- `rd REG -> %x`. -/
  | rd (off : Offset) (x : String)
  /-- `label:`. -/
  | label (l : String)
  /-- `if %x & m != 0 goto l`. -/
  | ifSet (x : String) (m : Word) (l : String)
  /-- `if %x & m = 0 goto l`. -/
  | ifClear (x : String) (m : Word) (l : String)
  /-- `%x <- expr`. -/
  | assign (x : String) (e : HostExpr)
deriving DecidableEq, Repr

/-- A host in the middle of a script: the script, the place of the next statement, and the host's variables. -/
structure HostState where
  script : List HostStmt
  place : Nat
  vars : List (String × Word)
deriving DecidableEq, Repr

/-- The value of a host variable. R90 gives a host variable no width and no first value; DESIGN CHOICE: it holds 64 bits,
and one never assigned is 0 (log 14). -/
def hostVar (h : HostState) (x : String) : Word := (h.vars.lookup x).getD 0#64

/-- The value of an expression. R90 does not say whether a sum or a difference of host variables wraps; DESIGN CHOICE:
both wrap modulo 2^64 (log 14). -/
def hostEval (h : HostState) : HostExpr → Word
  | .const v => v
  | .var x => hostVar h x
  | .and x y => hostEval h x &&& hostEval h y
  | .or x y => hostEval h x ||| hostEval h y
  | .xor x y => hostEval h x ^^^ hostEval h y
  | .add x y => hostEval h x + hostEval h y
  | .sub x y => hostEval h x - hostEval h y

/-- The host at the next statement. -/
def hostNext (h : HostState) : HostState := { h with place := h.place + 1 }

/-- The host with a variable assigned. -/
def hostAssign (x : String) (v : Word) (h : HostState) : HostState := { h with vars := (x, v) :: h.vars }

/-- The host at a label. R90 leaves open a label that stands nowhere or twice in a script; DESIGN CHOICE: an absent label
ends the script, and of two places with one label the goto goes to the first (log 14). -/
def hostGoto (l : String) (h : HostState) : HostState := { h with place := h.script.idxOf (.label l) }

/-- The transaction of the statement at the host's place, if it is one (R89). -/
def hostRequest (h : HostState) : Option BusRequest :=
  match h.script[h.place]? with
  | some (.wr off v) => some ⟨true, off, hostEval h v⟩
  | some (.rd off _) => some ⟨false, off, 0#64⟩
  | _ => none

/-- The host after its transaction was answered: a `rd` assigns the value read (R89). -/
def hostReceive (rdata : Word) (h : HostState) : HostState :=
  match h.script[h.place]? with
  | some (.rd _ x) => hostNext (hostAssign x rdata h)
  | _ => hostNext h

/-- The host after a statement that performs no transaction (R90). R90 says nothing of a host past its last statement;
DESIGN CHOICE: it stays there (log 14). -/
def hostLocal (h : HostState) : HostState :=
  match h.script[h.place]? with
  | some (.ifSet x m l) => if hostVar h x &&& m ≠ 0#64 then hostGoto l h else hostNext h
  | some (.ifClear x m l) => if hostVar h x &&& m = 0#64 then hostGoto l h else hostNext h
  | some (.assign x e) => hostNext (hostAssign x (hostEval h e) h)
  | some _ => hostNext h
  | none => h

/-- A host and the block it drives. -/
structure HostSystem where
  host : HostState
  block : State
deriving DecidableEq, Repr

/-- One statement of the script: a transaction takes one clock cycle of the block, which then gives the response; any
other statement takes none (R89, R90). R90 gives no cycles between statements and no other samples; DESIGN CHOICE: there
are none, whatever the block's inbox lists (log 14). -/
def systemStep (y : HostSystem) : Host.Outcome HostSystem Fault Refusal :=
  match hostRequest y.host with
  | none => .next { y with host := hostLocal y.host }
  | some r =>
    match step { y.block with inbox := [⟨false, some r⟩] } with
    | .next t => .next ⟨hostReceive t.resp.rdata y.host, t⟩
    | .fault e => .fault e
    | .refused e => .refused e

/-- `wait_done -> %s`, with the label its expansion uses (R91). -/
def waitDone (s l : String) : List HostStmt :=
  [.label l, .rd (offsetOf .status) s, .ifClear s 0x2#64 l]

/-- Operands, a command word, the wait and the read of RESULT: the shape R92 to R94 share. -/
def commandScript (w : Word) (r : String) (a b : HostExpr) (s l : String) : List HostStmt :=
  [.wr (offsetOf .opa) a, .wr (offsetOf .opb) b, .wr (offsetOf .cmd) (.const w)] ++ waitDone s l
    ++ [.rd (offsetOf .result) r]

/-- `mulmod %r, a, b` (R92). -/
def mulmodScript (r : String) (a b : HostExpr) (s l : String) : List HostStmt := commandScript mulmodWord r a b s l

/-- `powmod %r, a, b` (R93). -/
def powmodScript (r : String) (a b : HostExpr) (s l : String) : List HostStmt := commandScript powmodWord r a b s l

/-- `tag %r, x, y` (R94). -/
def tagScript (r : String) (x y : HostExpr) (s l : String) : List HostStmt := commandScript tagWord r x y s l

/-- `exchange %pub, random`: the generator 5 to the power of the host's secret (R95). -/
def exchangeScript (pub : String) (random : HostExpr) (s l : String) : List HostStmt :=
  powmodScript pub (.const 5#64) random s l

/-- `secret %k, peer, random` (R95). -/
def secretScript (k : String) (peer random : HostExpr) (s l : String) : List HostStmt :=
  powmodScript k peer random s l

end Sys2Proof.Machine
end

