-- ==== Sys2Proof/Tests/Slice0.lean ====
section
/-! SUPPORT. The model's own tests. Expected values come from spec/: the vectors of 95_test_vectors.md (S, V and the
tables of its section 2), the encodings of 30_encoding.md R81, R82 and R96. The last part shows, for each obligation with
hypotheses, a state that meets them. -/

namespace Sys2Proof.Tests

open Sys2Proof.Machine Sys2Proof.Safety

/-- The state of an outcome, if it is a next state. -/
def nextOf : Host.Outcome State Fault Refusal → Option State
  | .next s => some s
  | .fault _ => none
  | .refused _ => none

/-- The STATUS word and the response after an outcome. -/
def seen (o : Host.Outcome State Fault Refusal) : Option (Word × Response) :=
  (nextOf o).map fun s => (statusWord s, s.resp)

/-- IDLE with two operands. -/
def idleWith (x y : Word) : State := { State.reset with opa := x, opb := y }

/-- A command in flight whose LATENCY has passed. -/
def dueWith (k : BitVec 2) (x y : Word) : State :=
  { State.reset with pend := true, lastop := k, op := k, a := x, b := y, elapsed := Config.latMax }

/-- The error completion of V10: STATUS = 0x316. -/
def afterV10 : State := { State.reset with done := true, err := true, errcode := 1#4, lastop := 3#2 }

/-! ## Well-formedness: an ill-formed term for each check -/

theorem test_wf_refuses_misaligned_read : wellFormed (.busRead 0x01#6) = false := by decide
theorem test_wf_refuses_misaligned_write : wellFormed (.busWrite 0x0C#6 5#64) = false := by decide
theorem test_wf_accepts_status_read : wellFormed (.busRead 0x18#6) = true := by decide

/-! ## Decoding: words written out from R81, R82 and R96 -/

/-- `rd STATUS`: we = 0, addr = 011 000. -/
theorem test_decode_busRead : decodeTableWord 8 0b0011000 = some (.busRead 0x18#6) := by decide
/-- `wr CTRL`: we = 1, addr = 101 000. -/
theorem test_decode_busWrite : decodeTableWord 8 0b1101000 = some (.busWrite 0x28#6 0#64) := by decide
/-- 62 zeros and OP = 00. -/
theorem test_decode_mulmod : decodeTableWord 64 0b00 = some .mulmod := by decide
/-- 62 zeros and OP = 01. -/
theorem test_decode_powmod : decodeTableWord 64 0b01 = some .powmod := by decide
/-- 62 zeros and OP = 10. -/
theorem test_decode_tag : decodeTableWord 64 0b10 = some .tag := by decide
/-- V8: `rd 0x1C` is misaligned. -/
theorem test_decode_misaligned : decode (.bus ⟨false, 0x1C#6, 0#64⟩) = .error .misaligned := by rfl
/-- V10, V12: OP = 3, and a reserved bit set. -/
theorem test_decode_illegal : decodeCmd 0x3#64 = .error .illegalCmd ∧
    decodeCmd 0x8000000000000001#64 = .error .illegalCmd := by constructor <;> rfl
theorem test_header_of_wr_cmd : headerOf (cmdRequest 0#64) = 0x50#7 := by decide

/-! ## The functions, by the tables of 95_test_vectors.md -/

theorem test_mulmod_generic :
    mulmodAlg 0x123456789ABCDEF0#64 0x0FEDCBA987654321#64 = 0x650B76B7E0002926#64 := by decide +kernel
theorem test_mulmod_outside_domain :
    mulmodAlg 0xFFFFFFFFFFFFFFFF#64 0xFFFFFFFFFFFFFFFF#64 = 0x8000000000000675#64 := by decide +kernel
/-- The trace of `mulmod_alg(P - 1, 3)` after iteration 0. -/
theorem test_mulIter_trace : mulIter ⟨0#64, 0xFFFFFFFFFFFFFFC4#64, 3#64⟩ =
    ⟨0xFFFFFFFFFFFFFFC4#64, 0xFFFFFFFFFFFFFFC3#64, 1#64⟩ := by decide
theorem test_powmod_wraps_modulus : powmodAlg 2#64 0x40#64 = some 0x3B#64 := by decide +kernel
theorem test_powmod_reduces_base : powmodAlg 0xFFFFFFFFFFFFFFFF#64 2#64 = some 0xD24#64 := by decide +kernel
theorem test_tag_zero : tagAlg 0#64 0#64 = 0xE50E19ECE50FA9A2#64 := by decide +kernel
theorem test_tag_generic :
    tagAlg 0x0123456789ABCDEF#64 0xFEDCBA9876543210#64 = 0xC79336C87134B718#64 := by decide +kernel
/-- The round trace of `tag(0, 0)` after round 31. -/
theorem test_tag_rounds : tagRounds 0#64 0#64 32 0 tagInit =
    ⟨0x4053D148#32, 0x5FC99D2C#32, 0xCCD48118#32, 0xA40C5D2E#32⟩ := by decide +kernel

/-! ## One transaction or one completion, by V1 to V22, S1 and the rejected rows -/

/-- V2. -/
theorem test_read_modulus :
    (nextOf (exec (.busRead 0x30#6) State.reset)).map State.resp = some ⟨0xFFFFFFFFFFFFFFC5#64, false⟩ := by decide
/-- V8. -/
theorem test_read_misaligned :
    nextOf (exec (.busRead 0x1C#6) State.reset) = some { State.reset with resp := ⟨0#64, true⟩ } := by decide
/-- V14: ERR and ERRCODE cleared, DONE kept. -/
theorem test_write_status_clears_err : seen (exec (.busWrite 0x18#6 0x4#64) afterV10) = some (0x302#64, ⟨0#64, false⟩) := by
  decide
/-- V11: an illegal word at reset. -/
theorem test_write_cmd_illegal :
    seen (exec (.busWrite 0x10#6 0x4#64) State.reset) = some (0x016#64, ⟨0#64, false⟩) := by decide
/-- `a = P` is refused: STATUS = 0x26. -/
theorem test_mulmod_refuses_modulus :
    seen (exec .mulmod (idleWith 0xFFFFFFFFFFFFFFC5#64 1#64)) = some (0x26#64, ⟨0#64, false⟩) := by decide
/-- V16: accepted, then a second command while BUSY: STATUS = 0x9. -/
theorem test_overrun : seen (exec .powmod { State.reset with pend := true }) = some (0x9#64, ⟨0#64, false⟩) := by decide
/-- S1: the completion of MULMOD(2, 3). -/
theorem test_complete_mulmod :
    (nextOf (complete (dueWith 0#2 2#64 3#64))).map (fun s => (s.result, statusWord s)) = some (6#64, 0x2#64) := by decide +kernel
/-- `b = 0` is refused: STATUS = 0x136. -/
theorem test_powmod_refuses_zero : seen (exec .powmod (idleWith 7#64 0#64)) = some (0x136#64, ⟨0#64, false⟩) := by decide
/-- The completion of POWMOD(3, 5): STATUS = 0x102. -/
theorem test_complete_powmod :
    (nextOf (complete (dueWith 1#2 3#64 5#64))).map (fun s => (s.result, statusWord s)) = some (0xF3#64, 0x102#64) := by
  decide +kernel
/-- TAG accepted: STATUS = 0x201 (program P4). -/
theorem test_tag_accepted : seen (exec .tag State.reset) = some (0x201#64, ⟨0#64, false⟩) := by decide
/-- The completion of TAG(1, 0): STATUS = 0x202. -/
theorem test_complete_tag :
    (nextOf (complete (dueWith 2#2 1#64 0#64))).map (fun s => (s.result, statusWord s)) =
      some (0x168C16E0F030D918#64, 0x202#64) := by decide +kernel
/-- V19: an error completion with IE = 1 raises `irq`. -/
theorem test_irq_on_error :
    (nextOf (exec (.busWrite 0x10#6 3#64) { State.reset with ie := true })).map irq = some true := by decide
/-- The first step after reset runs the table's TAG row: BUSY, as P4. -/
theorem test_first_step : seen (step (State.reset.withFetchWord 64 2)) = some (0x201#64, ⟨0#64, false⟩) := by decide
/-- R202: a transaction in a reset cycle has no effect. -/
theorem test_reset_cycle :
    nextOf (step { afterV10 with inbox := [⟨true, some (cmdRequest 2#64)⟩] }) = some State.reset := by decide
/-- R92: the expansion of `mulmod %r, 2, 3`. -/
theorem test_mulmod_script : mulmodScript "r" (.const 2#64) (.const 3#64) "s" "w" =
    [.wr 0x00#6 (.const 2#64), .wr 0x08#6 (.const 3#64), .wr 0x10#6 (.const 0#64),
     .label "w", .rd 0x18#6 "s", .ifClear "s" 2#64 "w", .rd 0x20#6 "r"] := by decide

/-! ## Witnesses: each obligation's hypotheses are met together -/

/-- The IDLE state whose next cycle presents a request. -/
def presenting (r : BusRequest) : State := { State.reset with inbox := [⟨false, some r⟩] }

/-- Two clock cycles of CMD writes of TAG. -/
def twoTags : State :=
  { State.reset with inbox := [⟨false, some (cmdRequest tagWord)⟩, ⟨false, some (cmdRequest tagWord)⟩] }

/-- TAG accepted from reset, with another CMD write presented next. -/
def tagThenTag : State :=
  { respond 0#64 (latch 2#2 (bookkeep tagWord State.reset)) with inbox := [⟨false, some (cmdRequest tagWord)⟩] }

theorem latency_le_latMax (op : BitVec 2) (a b : Word) : Config.latency op a b ≤ Config.latMax := by
  have : 0 < Config.latMax := Nat.succ_pos _
  exact Nat.mod_lt _ this

theorem witness_DecodeOfEncodeIsInstruction : wellFormed (.busWrite 0x28#6 1#64) = true := by decide
theorem witness_StepRunsDecodedTransaction :
    (presenting (cmdRequest tagWord)).inbox = ⟨false, some (cmdRequest tagWord)⟩ :: [] ∧
    decodeBus (cmdRequest tagWord) = .ok (.busWrite 0x10#6 tagWord) := by constructor <;> rfl
theorem witness_TableRowsRunAsNextStep :
    State.reset.pend = false ∧ (0x38#6 : Offset).extractLsb' 0 3 = 0#3 := by decide
theorem witness_ResetCycleLeavesResetState :
    ({ afterV10 with inbox := [⟨true, none⟩] } : State).inbox = ⟨true, none⟩ :: [] := rfl
theorem witness_IdleCycleDoesNothing : State.reset.pend = false ∧ State.reset.inbox = [] ∧
    ({ State.reset with inbox := [⟨false, none⟩] } : State).inbox = ⟨false, none⟩ :: [] := ⟨rfl, rfl, rfl⟩
theorem witness_MisalignedTransactionIsBusError :
    (⟨true, 0x0C#6, 5#64⟩ : BusRequest).addr.extractLsb' 0 3 ≠ 0#3 := by decide
theorem witness_ParametersWithinBounds : Config.base + 64 ≤ Config.base + 64 := le_refl _
theorem witness_WindowBytesAreLittleEndian : (0 : Nat) < 8 ∧ 7 < 8 := by decide
theorem witness_TransactionsKeepOtherBytes :
    exec (.busRead 0x20#6) State.reset = .next State.reset ∧
    exec (.busWrite 0x00#6 7#64) State.reset = .next { State.reset with opa := 7#64 } ∧
    slotOf 0x08#6 ≠ (if slotOf 0x00#6 = .cmd then .status else slotOf 0x00#6) ∧
    exec .tag State.reset = .next (respond 0#64 (latch 2#2 (bookkeep tagWord State.reset))) ∧
    slotOf 0x20#6 ≠ .status := ⟨rfl, rfl, by decide, rfl, by decide⟩
theorem witness_WritesButCmdAreIdempotent : slotOf 0x00#6 ≠ .cmd ∧
    exec (.busWrite 0x00#6 7#64) State.reset = .next { State.reset with opa := 7#64 } := ⟨by decide, rfl⟩
theorem witness_CommandWhileBusyOverruns : (dueWith 0#2 2#64 3#64).pend = true := rfl
theorem witness_MulmodIsAccepted : (idleWith 2#64 3#64).pend = false ∧ (idleWith 2#64 3#64).opa < Config.modulus ∧
    (idleWith 2#64 3#64).opb < Config.modulus := by decide
theorem witness_OperandsOutsideDomainAreErrors :
    (idleWith 0xFFFFFFFFFFFFFFC5#64 0#64).pend = false ∧
    Config.modulus ≤ (idleWith 0xFFFFFFFFFFFFFFC5#64 0#64).opa ∧
    (idleWith 0xFFFFFFFFFFFFFFC5#64 0#64).opb = 0#64 := by decide
theorem witness_PowmodIsAccepted : (idleWith 5#64 1#64).pend = false ∧ (idleWith 5#64 1#64).opb ≠ 0#64 := by decide
theorem witness_TagIsAccepted : (idleWith 0#64 0#64).pend = false := rfl
theorem witness_CompletionWritesResult : (dueWith 0#2 2#64 3#64).op = 0#2 ∧ (dueWith 1#2 5#64 1#64).op = 1#2 ∧
    (dueWith 1#2 5#64 1#64).b ≠ 0#64 ∧ (dueWith 2#2 0#64 0#64).op = 2#2 := by decide
theorem witness_CompletionStopsOutsideDomain : (dueWith 3#2 0#64 0#64).op = 3#2 ∧ (dueWith 1#2 5#64 0#64).op = 1#2 ∧
    (dueWith 1#2 5#64 0#64).b = 0#64 := by decide
theorem witness_MulmodComputesProduct : (idleWith 0xFFFFFFFFFFFFFFC4#64 0xFFFFFFFFFFFFFFC4#64).pend = false ∧
    (idleWith 0xFFFFFFFFFFFFFFC4#64 0xFFFFFFFFFFFFFFC4#64).opa < Config.modulus ∧
    (idleWith 0xFFFFFFFFFFFFFFC4#64 0xFFFFFFFFFFFFFFC4#64).opb < Config.modulus := by decide
theorem witness_PowmodComputesPower : (idleWith 0xFFFFFFFFFFFFFFC5#64 1#64).pend = false ∧
    (idleWith 0xFFFFFFFFFFFFFFC5#64 1#64).opb ≠ 0#64 := by decide
theorem witness_TagComputesTag : (idleWith 1#64 0#64).pend = false := rfl
theorem witness_MultiplierComputesProduct : (0xFFFFFFFFFFFFFFC4#64 : Word) < Config.modulus := by decide
theorem witness_LoopsEndAtBitLength : (6#64 : Word) ≠ 0#64 ∧ bitlen 6#64 - 1 ≤ 2 := by decide
theorem witness_PowmodAlgIsPower : (0xFFFFFFFFFFFFFFFF#64 : Word) ≠ 0#64 := by decide
theorem witness_CanonicalReducesBase : Config.modulus ≤ (0xFFFFFFFFFFFFFFC5#64 : Word) := by decide
theorem witness_PowIterationEqualsRecursion : (1#64 : Word) ≠ 0#64 := by decide
theorem witness_ModularOperationsCommute : (2#64 : Word) < Config.modulus ∧ (3#64 : Word) < Config.modulus ∧
    (1#64 : Word) ≠ 0#64 := by decide
theorem witness_ModulusIsLargestPrime : Nat.Prime 2 ∧ 2 < 2 ^ 64 := ⟨Nat.prime_two, by norm_num⟩
theorem witness_PowmodByModulusLessOneIsOne : (5#64 : Word).toNat % (2 ^ 64 - 59) ≠ 0 := by decide
theorem witness_UnitScheduleIsNotObservable : inDomain 0#2 2#64 3#64 ∧ inDomain 1#2 5#64 1#64 ∧
    inDomain 2#2 0#64 0#64 := ⟨.inl (by decide), .inr (.inl (by decide)), .inr (.inr rfl)⟩

theorem reset_StateInv : StateInv State.reset := by constructor <;> simp

/-- A step that accepts a TAG. -/
theorem step_twoTags : step twoTags = .next tagThenTag := rfl

theorem witness_StepKeepsInvariants : StateInv twoTags ∧ step twoTags = .next tagThenTag := by
  refine ⟨?_, rfl⟩
  constructor <;> simp [twoTags]
theorem witness_StepNeverStopsUnderInvariants : StateInv State.reset := reset_StateInv

/-- A step in which the due command completes. -/
theorem step_due (ps : List PortCycle) (hp : ps = []) :
    step { dueWith 2#2 0#64 0#64 with inbox := ps } =
      .next (finish (tagAlg 0#64 0#64) (noResponse (dueWith 2#2 0#64 0#64))) := by
  subst hp
  have h : Config.latency 2#2 0#64 0#64 ≤ Config.latMax + 1 := by
    have := latency_le_latMax 2#2 0#64 0#64
    omega
  simp only [step, clockCycle, hostCycle, andThen, coreCycle, dueWith, noResponse, h, if_true]
  rfl

theorem witness_BusyBeginsAndEndsAsStated :
    (step twoTags = .next tagThenTag ∧ twoTags.pend = false ∧ tagThenTag.pend = true) ∧
    (step (dueWith 2#2 0#64 0#64) = .next (finish (tagAlg 0#64 0#64) (noResponse (dueWith 2#2 0#64 0#64))) ∧
      (dueWith 2#2 0#64 0#64).pend = true ∧
      (finish (tagAlg 0#64 0#64) (noResponse (dueWith 2#2 0#64 0#64))).pend = false) :=
  ⟨⟨rfl, rfl, rfl⟩, step_due [] rfl, rfl, rfl⟩
theorem witness_ResultChangesOnlyAtCompletion :
    step (dueWith 2#2 0#64 0#64) = .next (finish (tagAlg 0#64 0#64) (noResponse (dueWith 2#2 0#64 0#64))) ∧
    (finish (tagAlg 0#64 0#64) (noResponse (dueWith 2#2 0#64 0#64))).result ≠ (dueWith 2#2 0#64 0#64).result :=
  ⟨step_due [] rfl, by rw [finish_result, test_tag_zero]; decide⟩
theorem witness_LatchIsFixedWhileBusy : (dueWith 2#2 0#64 0#64).pend = true ∧
    EventRun ([⟨true, 0x00#6, 7#64⟩].map Event.transaction) (dueWith 2#2 0#64 0#64)
      { dueWith 2#2 0#64 0#64 with opa := 7#64 } := ⟨rfl, .cons _ _ _ _ _ rfl (.nil _)⟩

/-- The CMD write that overruns a due command. -/
theorem overrun_step : ∃ t, step { dueWith 2#2 0#64 0#64 with inbox := [⟨false, some (cmdRequest tagWord)⟩] } = .next t ∧
    t.ovr = true := by
  have h : Config.latency 2#2 0#64 0#64 ≤ Config.latMax + 1 := by
    have := latency_le_latMax 2#2 0#64 0#64
    omega
  refine ⟨finish (tagAlg 0#64 0#64) (respond 0#64 (overrun (dueWith 2#2 0#64 0#64))), ?_, rfl⟩
  show andThen (.next (respond 0#64 (overrun (dueWith 2#2 0#64 0#64)))) (coreCycle true) = _
  simp only [andThen, coreCycle, dueWith, respond, overrun, setOverrun, h, if_true]
  rfl

theorem witness_OverrunFlagIsSticky :
    (∃ s t : State, step s = .next t ∧ s.ovr = false ∧ t.ovr = true) ∧
    (step { State.reset with ovr := true, inbox := [⟨false, some ⟨true, 0x18#6, 8#64⟩⟩] } = .next State.reset) ∧
    ({ State.reset with ovr := true, inbox := [⟨false, some ⟨true, 0x18#6, 8#64⟩⟩] } : State).ovr = true :=
  ⟨have ⟨t, h, h'⟩ := overrun_step; ⟨_, t, h, rfl, h'⟩, rfl, rfl⟩
/-- V15. -/
theorem witness_ErrWithoutDoneOnlyByClearingDone :
    step { afterV10 with inbox := [⟨false, some ⟨true, 0x18#6, 2#64⟩⟩] } = .next { afterV10 with done := false } ∧
    ({ afterV10 with done := false } : State).err = true ∧ ({ afterV10 with done := false } : State).done = false :=
  ⟨rfl, rfl, rfl⟩
/-- V19 and V20. -/
theorem witness_InterruptChangesOnlyAsStated :
    (step { State.reset with done := true, inbox := [⟨false, some ⟨true, 0x28#6, 1#64⟩⟩] } =
        .next { State.reset with done := true, ie := true } ∧
      irq { State.reset with done := true, inbox := [⟨false, some ⟨true, 0x28#6, 1#64⟩⟩] } = false ∧
      irq { State.reset with done := true, ie := true } = true) ∧
    (step { State.reset with done := true, ie := true, inbox := [⟨false, some ⟨true, 0x18#6, 2#64⟩⟩] } =
        .next { State.reset with ie := true } ∧
      irq { State.reset with done := true, ie := true, inbox := [⟨false, some ⟨true, 0x18#6, 2#64⟩⟩] } = true ∧
      irq { State.reset with ie := true } = false) := ⟨⟨rfl, rfl, rfl⟩, rfl, rfl, rfl⟩
/-- V21. -/
theorem witness_CompletionUsesLatchedOperands : (dueWith 0#2 2#64 3#64).pend = true ∧
    EventRun ([⟨true, 0x00#6, 7#64⟩].map Event.transaction ++ [Event.completion]) (dueWith 0#2 2#64 3#64)
      (finish (mulmodAlg 2#64 3#64) { dueWith 0#2 2#64 3#64 with opa := 7#64 }) :=
  ⟨rfl, .cons _ _ _ _ _ rfl (.cons _ _ _ _ _ ⟨rfl, rfl⟩ (.nil _))⟩

/-- TAG accepted from reset. -/
def tagAccepted : State := respond 0#64 (latch 2#2 (bookkeep tagWord State.reset))

theorem witness_DoneBelongsToLastCommand_success :
    State.reset.pend = false ∧ present (cmdRequest tagWord) State.reset = .next tagAccepted ∧
    EventRun [.completion] tagAccepted (finish (tagAlg 0#64 0#64) tagAccepted) ∧
    (∀ e ∈ [Event.completion], e ≠ .reset ∧ ∀ r, e = .transaction r → ¬ WritesSlot .cmd r) ∧
    (finish (tagAlg 0#64 0#64) tagAccepted).done = true ∧
    (∀ r, Event.transaction r ∈ [Event.completion] → WritesSlot .status r → ¬ ClearsErrAlone r.wdata) ∧
    (finish (tagAlg 0#64 0#64) tagAccepted).err = false :=
  ⟨rfl, rfl, .cons _ _ _ _ _ ⟨rfl, rfl⟩ (.nil _), by simp, rfl, by simp, rfl⟩
/-- A STATUS write of OVR's bit after the completion: clause (b)'s premise admits it. -/
theorem witness_DoneBelongsToLastCommand_successStatusWrite :
    EventRun [.completion, .transaction ⟨true, 0x18#6, 8#64⟩] tagAccepted
      (respond 0#64 (writeStatus 8#64 (finish (tagAlg 0#64 0#64) tagAccepted))) ∧
    ¬ ClearsErrAlone 8#64 ∧
    (respond 0#64 (writeStatus 8#64 (finish (tagAlg 0#64 0#64) tagAccepted))).done = true ∧
    (respond 0#64 (writeStatus 8#64 (finish (tagAlg 0#64 0#64) tagAccepted))).err = false :=
  ⟨.cons _ _ _ _ _ ⟨rfl, rfl⟩ (.cons _ _ _ _ _ rfl (.nil _)), by simp [ClearsErrAlone], rfl, rfl⟩
/-- A STATUS write of OVR's bit after a rejected command: clauses (a) and (c) admit it. -/
theorem witness_DoneBelongsToLastCommand_errorStatusWrite :
    present (cmdRequest 3#64) State.reset = .next afterV10 ∧
    EventRun [.transaction ⟨true, 0x18#6, 8#64⟩] afterV10 afterV10 ∧
    ¬ WritesSlot .cmd ⟨true, 0x18#6, 8#64⟩ ∧ afterV10.done = true ∧ afterV10.err = true :=
  ⟨rfl, .cons _ _ _ _ _ rfl (.nil _), fun h => absurd h.2.2 (by decide), rfl, rfl⟩
/-- V14, a write that the premise of clause (b) leaves out: DONE = 1, ERR = 0 and the old RESULT after a rejected
command. -/
theorem test_clearing_err_alone :
    present ⟨true, 0x18#6, 4#64⟩ afterV10 = .next { afterV10 with err := false, errcode := 0#4 } ∧
    ClearsErrAlone 4#64 ∧ afterV10.done = true := ⟨rfl, by simp [ClearsErrAlone], rfl⟩
theorem witness_DoneBelongsToLastCommand_error :
    State.reset.pend = false ∧ present (cmdRequest 3#64) State.reset = .next afterV10 ∧
    EventRun [] afterV10 afterV10 ∧ afterV10.done = true ∧ afterV10.err = true := ⟨rfl, rfl, .nil _, rfl, rfl⟩
/-- One run for each of the four cases: a write to RESULT, a reset, the completion of a command in flight at the start, and
a command accepted and completed. -/
theorem witness_ResultIsThatOfLastCompletion :
    EventRun [.transaction ⟨true, 0x20#6, 9#64⟩] tagAccepted tagAccepted ∧
    EventRun [.completion, .reset] tagAccepted State.reset ∧
    EventRun [.completion] tagAccepted (finish (tagAlg 0#64 0#64) tagAccepted) ∧
    EventRun [.transaction (cmdRequest tagWord), .completion] State.reset
      (finish (tagAlg 0#64 0#64) tagAccepted) ∧
    tagAccepted.pend = true ∧ WritesSlot .cmd (cmdRequest tagWord) ∧ Acceptable tagWord State.reset :=
  ⟨.cons _ _ _ _ _ rfl (.nil _), .cons _ _ _ _ _ ⟨rfl, rfl⟩ (.cons _ _ _ _ _ rfl (.nil _)),
    .cons _ _ _ _ _ ⟨rfl, rfl⟩ (.nil _), .cons _ _ _ _ _ rfl (.cons _ _ _ _ _ ⟨rfl, rfl⟩ (.nil _)),
    rfl, ⟨rfl, rfl, rfl⟩, rfl, .inr (.inr rfl)⟩
theorem witness_CommandCompletesAfterLatency : twoTags.pend = false ∧ step twoTags = .next tagThenTag ∧
    tagThenTag.pend = true ∧ NoResetAhead tagThenTag := ⟨rfl, rfl, rfl, by simp [NoResetAhead, tagThenTag]⟩
theorem witness_NextCycleCmdWriteOverruns : twoTags.pend = false ∧ step twoTags = .next tagThenTag ∧
    tagThenTag.pend = true ∧ Presents tagThenTag (cmdRequest tagWord) ∧ WritesSlot .cmd (cmdRequest tagWord) :=
  ⟨rfl, rfl, rfl, ⟨[], rfl⟩, rfl, rfl, rfl⟩
theorem witness_ClockedRunsAreInterleavings : Runs 1 twoTags tagThenTag := .succ 0 _ _ _ rfl (.zero _)

end Sys2Proof.Tests
end

/-! PROOFS. The scope of the block (00_scope.md): the open parameters and the window (R8, R60), the modulus (R3), and the
LATENCY of an accepted command (R212). -/

namespace Sys2Proof.Scope

open Sys2Proof.Machine Sys2Proof.Safety

/-! ## LATENCY, BASE and the window -/

/-- R8, for every value of the free choices behind LATENCY and LAT_MAX. -/
theorem latency_bounds (op : BitVec 2) (a b : Word) :
    1 ≤ Config.latency op a b ∧ Config.latency op a b ≤ Config.latMax :=
  ⟨Nat.succ_pos _, Nat.mod_lt _ (Nat.succ_pos _)⟩

theorem windowOffset_hostAddress (o : Offset) : windowOffset (hostAddress o) = some o := by
  have inside : Config.base ≤ hostAddress o ∧ hostAddress o < Config.base + 64 :=
    ⟨Nat.le_add_right _ _, Nat.add_lt_add_left o.isLt _⟩
  rw [windowOffset, if_pos inside, hostAddress, Nat.add_sub_cancel_left, BitVec.ofNat_toNat, BitVec.setWidth_eq]

theorem windowOffset_eq_none_iff {n : Nat} :
    windowOffset n = none ↔ n < Config.base ∨ Config.base + 64 ≤ n := by
  rw [windowOffset, ite_eq_right_iff]
  simp only [reduceCtorEq, imp_false]
  omega

/-- Settles O11. -/
theorem parametersWithinBounds : Obligations.ParametersWithinBounds :=
  ⟨latency_bounds, Nat.mul_mod_right 64 _, fun o => ⟨rfl, windowOffset_hostAddress o⟩,
    fun _ => windowOffset_eq_none_iff.2⟩

/-! ## The modulus -/

/-- Lucas' criterion, from the list of the prime factors of `p - 1`: an element of order `p - 1` modulo `p`. -/
theorem prime_of_primitive_root {p : ℕ} (a : ZMod p) (factors : List ℕ) (hprime : ∀ q ∈ factors, q.Prime)
    (hprod : factors.prod = p - 1) (hone : a ^ (p - 1) = 1) (hne : ∀ q ∈ factors, a ^ ((p - 1) / q) ≠ 1) :
    p.Prime := by
  refine lucas_primality p a hone fun q hq hdvd => hne q ?_
  exact mem_list_primes_of_dvd_prod hq.prime (fun r hr => (hprime r hr).prime) (hprod ▸ hdvd)

/-- The largest prime factor of `P - 1`; 13 is a primitive root modulo it. -/
theorem prime_cofactor : Nat.Prime 5594472617641 := by
  refine prime_of_primitive_root 13 [2, 2, 2, 3, 5, 1427, 2131, 15331] ?_ (by norm_num) ?_ ?_
  · norm_num
  · reduce_mod_char
  · simp only [List.forall_mem_cons, Nat.reduceSub, Nat.reduceDiv]
    reduce_mod_char
    decide

/-- 2 is a primitive root modulo `P`. -/
theorem prime_modulus : Nat.Prime 18446744073709551557 := by
  refine prime_of_primitive_root 2 [2, 2, 11, 137, 547, 5594472617641] ?_ (by norm_num) ?_ ?_
  · have small : ∀ q ∈ [2, 2, 11, 137, 547], Nat.Prime q := by norm_num
    exact List.forall_mem_append.2 ⟨small, List.forall_mem_singleton.2 prime_cofactor⟩
  · reduce_mod_char
  · simp only [List.forall_mem_cons, Nat.reduceSub, Nat.reduceDiv]
    reduce_mod_char
    decide

/-- The least prime factors of the numbers between `P` and `2^64`. -/
def gapDivisors : List ℕ := [2, 3, 5, 7, 11, 13, 17, 19, 29, 31, 41, 53, 827, 11071, 139646831]

theorem gapDivisor_bounds : ∀ d ∈ gapDivisors, 1 < d ∧ d < 2 ^ 32 := by decide

theorem gapDivisor_dvd : ∀ k < 59, 0 < k → ∃ d ∈ gapDivisors, d ∣ 2 ^ 64 - k := by decide

/-- No prime lies between `P` and `2^64`: each number there has a proper divisor. -/
theorem prime_le_modulus {q : ℕ} (hq : q.Prime) (hlt : q < 2 ^ 64) : q ≤ 2 ^ 64 - 59 := by
  by_contra hgap
  obtain ⟨d, hmem, hdvd⟩ := gapDivisor_dvd (2 ^ 64 - q) (by omega) (by omega)
  obtain ⟨hone, hsmall⟩ := gapDivisor_bounds d hmem
  rw [Nat.sub_sub_self hlt.le] at hdvd
  have : d = q := (hq.eq_one_or_self_of_dvd d hdvd).resolve_left hone.ne'
  omega

/-- Settles O39, by a primality certificate for `P` and a divisor of each larger number below `2^64`. -/
theorem modulusIsLargestPrime : Obligations.ModulusIsLargestPrime :=
  ⟨rfl, rfl, prime_modulus, fun _ => prime_le_modulus⟩

/-! ## A command in flight -/

/-- The command latched in `t` is in flight in `s`, `k` cycles after its accept, with RESULT as in `t` and no reset to
come (R38, R40). -/
structure InFlight (t : State) (k : Nat) (s : State) : Prop where
  pend : s.pend = true
  op : s.op = t.op
  a : s.a = t.a
  b : s.b = t.b
  lastop : s.lastop = t.lastop
  result : s.result = t.result
  elapsed : s.elapsed = k
  noReset : NoResetAhead s

section

variable {s t u : State} {k : Nat}

/-- R154, R157: no transaction touches a command in flight, a CMD write included. -/
theorem InFlight.after_present {r : BusRequest} (h : InFlight t k s) (hp : present r s = .next u) : InFlight t k u := by
  rcases present_effect hp with ⟨_, _, _, e⟩ | ⟨_, e⟩ | ⟨_, e⟩ | ⟨_, e⟩ | ⟨_, e⟩ | ⟨_, e⟩
  case inr.inr.inr.inr.inr =>
    rw [writeCmd, issue_busy h.pend] at e
    exact e ▸ { h with }
  all_goals exact e ▸ { h with }

theorem InFlight.after_hostCycle {req : Option BusRequest} (h : InFlight t k s) (hc : hostCycle req s = .next u) :
    InFlight t k u := by
  cases req with
  | none =>
    obtain rfl : noResponse s = u := Host.Outcome.next.inj hc
    exact { h with }
  | some r => exact h.after_present hc

/-- With no reset ahead, a step is a clock cycle on what the next port sample presents. -/
theorem step_of_noResetAhead (h : NoResetAhead s) : ∃ req rest,
    step s = clockCycle req { s with inbox := rest } ∧ NoResetAhead { s with inbox := rest } := by
  cases hi : s.inbox with
  | nil =>
    have same : ({ s with inbox := [] } : State) = s := by rw [← hi]
    exact ⟨none, [], by simp only [step, hi, same], by simp [NoResetAhead]⟩
  | cons p rest =>
    rw [NoResetAhead, hi, List.forall_mem_cons] at h
    exact ⟨p.req, rest, by simp [step, hi, h.1], h.2⟩

/-- The host's part of a cycle leaves the command in flight, so the step is the core's part. -/
theorem InFlight.step_eq_coreCycle (h : InFlight t k s) : ∃ u, InFlight t k u ∧ step s = coreCycle true u := by
  obtain ⟨req, rest, hstep, hrest⟩ := step_of_noResetAhead h.noReset
  obtain ⟨u, hu⟩ := hostCycle_next req { s with inbox := rest }
  have h' : InFlight t k { s with inbox := rest } := { h with noReset := hrest }
  refine ⟨u, h'.after_hostCycle hu, ?_⟩
  rw [hstep, clockCycle, hu, h'.pend]
  rfl

/-- Before its LATENCY has passed, a command stays in flight for one more cycle (R212). -/
theorem InFlight.step_early (h : InFlight t k s) (hk : k + 1 < Config.latency t.op t.a t.b) :
    ∃ u, step s = .next u ∧ InFlight t (k + 1) u := by
  obtain ⟨u, hu, hstep⟩ := h.step_eq_coreCycle
  have notDue : ¬ Config.latency u.op u.a u.b ≤ u.elapsed + 1 := by
    rw [hu.op, hu.a, hu.b, hu.elapsed]
    omega
  rw [hstep, coreCycle, if_pos rfl, if_neg notDue]
  exact ⟨_, rfl, { hu with elapsed := congrArg (· + 1) hu.elapsed }⟩

/-- In the cycle in which its LATENCY has passed, a command completes with its result (R160). -/
theorem InFlight.step_due (h : InFlight t k s) (hk : Config.latency t.op t.a t.b ≤ k + 1) {r : Word}
    (hr : commandResult t.op t.a t.b = some r) :
    ∃ u, step s = .next (finish r u) ∧ u.lastop = t.lastop := by
  obtain ⟨u, hu, hstep⟩ := h.step_eq_coreCycle
  have due : Config.latency u.op u.a u.b ≤ u.elapsed + 1 := by rwa [hu.op, hu.a, hu.b, hu.elapsed]
  have hcomplete : complete u = .next (finish r u) :=
    complete_next_iff.2 ⟨r, by rwa [hu.op, hu.a, hu.b], rfl⟩
  exact ⟨u, by rw [hstep, coreCycle, if_pos rfl, if_pos due, hcomplete], hu.lastop⟩

/-- For every number of cycles below its LATENCY the command is still in flight. -/
theorem InFlight.runs (h : InFlight t 0 t) (hk : k < Config.latency t.op t.a t.b) :
    ∃ u, Runs k t u ∧ InFlight t k u := by
  induction k with
  | zero => exact ⟨t, .zero t, h⟩
  | succ k ih =>
    obtain ⟨v, hrun, hv⟩ := ih (by omega)
    obtain ⟨u, hstep, hu⟩ := hv.step_early hk
    exact ⟨u, runs_add hrun (.succ 0 _ _ _ hstep (.zero u)), hu⟩

/-! ## The accept of a command -/

/-- R156, R157: only the CMD write of an acceptable word makes an IDLE block BUSY. -/
theorem hostCycle_accepts {req : Option BusRequest} (hidle : s.pend = false) (h : hostCycle req s = .next u)
    (hbusy : u.pend = true) :
    ∃ w, Acceptable w s ∧ u = respond 0#64 (latch (opField w) (bookkeep w s)) := by
  cases req with
  | none =>
    obtain rfl : noResponse s = u := Host.Outcome.next.inj h
    simp [hidle] at hbusy
  | some r =>
    rcases present_effect h with ⟨_, _, _, e⟩ | ⟨_, e⟩ | ⟨_, e⟩ | ⟨_, e⟩ | ⟨_, e⟩ | ⟨_, e⟩
    case inr.inr.inr.inr.inr =>
      rcases writeCmd_cases r.wdata s with ⟨hp, _⟩ | ⟨_, _, c, hc⟩ | ⟨_, hacc, hc⟩
      · simp [hidle] at hp
      · simp [e, hc, hidle] at hbusy
      · exact ⟨_, hacc, by rw [e, hc]⟩
    all_goals simp [e, hidle] at hbusy

theorem clockCycle_accepts {req : Option BusRequest} (hidle : s.pend = false) (h : clockCycle req s = .next t)
    (hbusy : t.pend = true) :
    ∃ w, Acceptable w s ∧ t = respond 0#64 (latch (opField w) (bookkeep w s)) := by
  obtain ⟨u, hu, hcore⟩ := clockCycle_next.1 h
  rw [hidle] at hcore
  obtain rfl : u = t := Host.Outcome.next.inj hcore
  exact hostCycle_accepts hidle hu hbusy

/-- A step from IDLE to BUSY is the accept of an acceptable word, from the state without the port sample it used. -/
theorem step_accepts (hidle : s.pend = false) (h : step s = .next t) (hbusy : t.pend = true) :
    ∃ w rest, Acceptable w s ∧ t = respond 0#64 (latch (opField w) (bookkeep w { s with inbox := rest })) := by
  rcases step_cases h with ⟨_, hc⟩ | ⟨_, _, _, _, rfl⟩ | ⟨_, rest, _, _, hc⟩
  · obtain ⟨w, hacc, ht⟩ := clockCycle_accepts hidle hc hbusy
    exact ⟨w, s.inbox, hacc, ht⟩
  · simp at hbusy
  · obtain ⟨w, hacc, ht⟩ := clockCycle_accepts (s := { s with inbox := rest }) hidle hc hbusy
    exact ⟨w, rest, hacc, ht⟩

/-- A command inside its domain has a result (R112, R160). -/
theorem commandResult_of_inDomain {op : BitVec 2} {a b : Word} (h : inDomain op a b) :
    ∃ r, commandResult op a b = some r := by
  rcases h with ⟨rfl, _⟩ | ⟨rfl, hb⟩ | rfl
  · exact ⟨_, rfl⟩
  · exact ⟨powRec (canonical a) 63 b, by simp [commandResult, powmodAlg, hb]⟩
  · exact ⟨_, rfl⟩

end

/-- Settles O57: the accept starts the count of cycles at 0, every cycle below LATENCY adds 1 to it, and the last one
completes the command. -/
theorem commandCompletesAfterLatency : Obligations.CommandCompletesAfterLatency := by
  intro s t hidle hstep hbusy hreset
  obtain ⟨w, rest, ⟨_, hdomain⟩, ht⟩ := step_accepts hidle hstep hbusy
  have start : InFlight t 0 t := ⟨hbusy, rfl, rfl, rfl, rfl, rfl, by rw [ht]; rfl, hreset⟩
  obtain ⟨r, hr⟩ : ∃ r, commandResult t.op t.a t.b = some r := by
    rw [ht]
    exact commandResult_of_inDomain hdomain
  refine ⟨fun k hk => ?_, ?_⟩
  · obtain ⟨u, hrun, hu⟩ := start.runs hk
    exact ⟨u, hrun, hu.pend, hu.result⟩
  · obtain ⟨n, hn⟩ := Nat.exists_eq_add_of_le' (latency_bounds t.op t.a t.b).1
    obtain ⟨v, hrun, hv⟩ := start.runs (k := n) (by omega)
    obtain ⟨u, hlast, hlastop⟩ := hv.step_due hn.le hr
    have hruns : Runs (n + 1) t (finish r u) := runs_add hrun (.succ 0 _ _ _ hlast (.zero _))
    exact ⟨finish r u, hn ▸ hruns, rfl, rfl, rfl, rfl, hlastop, hr⟩

end Sys2Proof.Scope

/-! PROOFS. The state (10_state.md): the units' work (R39 to R41), STATUS and reset (R25, R43), what one step does to the
command in flight, RESULT and the flags (R21, R29, R33, R44), which command's result RESULT holds after a run, and the
invariants of R44. -/

namespace Sys2Proof.StateRules

open Sys2Proof.Machine Sys2Proof.Safety

/-! ## The units' work leads to the command's result (R41, R114, R141) -/

/-- An iteration halves `b`, so `n` of them are enough for a `b` below `2^n` (R101). -/
theorem mulLoop_succ {n : Nat} {l : MulLoop} (h : l.b.toNat < 2 ^ n) : mulLoop (n + 1) l = mulLoop n l := by
  induction n generalizing l with
  | zero =>
    have hb : l.b = 0#64 := BitVec.eq_of_toNat_eq (by simpa using h)
    simp [mulLoop, hb]
  | succ n ih =>
    have half : (mulIter l).b.toNat < 2 ^ n := by
      simp only [mulIter, BitVec.toNat_ushiftRight, Nat.shiftRight_eq_div_pow]
      omega
    rw [mulLoop, ih half, ← mulLoop]

/-- One more iteration leaves fewer to do, and the same result. -/
theorem workResult_workIter (a b : Word) (w : Work) : workResult a b (workIter a b w) = workResult a b w := by
  cases w with
  | idle => rfl
  | mul l =>
    by_cases hb : l.b = 0#64
    · simp [workIter, hb]
    · have unroll : mulLoop 65 l = mulLoop 64 (mulIter l) := by rw [mulLoop, if_neg hb]
      simp only [workIter, if_neg hb, workResult, ← unroll, mulLoop_succ l.b.isLt]
  | pow t left => cases left <;> rfl
  | tag r i =>
    by_cases hi : i < 64
    · have unroll : 64 - i = 64 - (i + 1) + 1 := by omega
      simp only [workIter, if_pos hi, workResult, unroll, tagRounds]
    · simp only [workIter, if_neg hi]

theorem workResult_workRun (a b : Word) (n : Nat) (w : Work) :
    workResult a b (workRun a b n w) = workResult a b w := by
  induction n generalizing w with
  | zero => rfl
  | succ n ih => rw [workRun, ih, workResult_workIter]

/-- The last pass of the loop is on bit 0; those before it are the loop on `b >> 1`. -/
theorem powBits_succ (a b : Word) (j : Nat) (t : Word) :
    powBits a b (j + 1) t = powBit a b 0 (powBits a (b >>> 1) j t) := by
  induction j generalizing t with
  | zero => rfl
  | succ j ih =>
    have shift : powBit a b (j + 1) t = powBit a (b >>> 1) j t := by
      simp [powBit, Nat.add_comm]
    rw [powBits, ih, shift, ← powBits]

theorem powRec_one (a : Word) (n : Nat) : powRec a n 1#64 = powBits a 1#64 (Nat.log2 (1#64).toNat) a := by
  have once : powBits a 1#64 (Nat.log2 (1#64).toNat) a = a := rfl
  cases n <;> simp only [powRec, if_pos, once]

/-- The recursion of R111 is the loop of R114 over the bits of the exponent below its highest. -/
theorem powRec_eq_powBits (a : Word) {n : Nat} {b : Word} (hb : b ≠ 0#64) (hn : b.toNat < 2 ^ (n + 1)) :
    powRec a n b = powBits a b (Nat.log2 b.toNat) a := by
  have hpos : b.toNat ≠ 0 := by simpa [← BitVec.toNat_inj] using hb
  induction n generalizing b with
  | zero =>
    have hone : b = 1#64 := by bv_omega
    exact hone ▸ powRec_one a 0
  | succ n ih =>
    by_cases hone : b = 1#64
    · exact hone ▸ powRec_one a (n + 1)
    · have two_le : 2 ≤ b.toNat := by bv_omega
      have half : (b >>> 1).toNat = b.toNat / 2 := by simp [Nat.shiftRight_eq_div_pow]
      have half_pos : (b >>> 1).toNat ≠ 0 := by omega
      have half_ne : b >>> 1 ≠ 0#64 := fun h => half_pos (by rw [h]; rfl)
      have half_lt : (b >>> 1).toNat < 2 ^ (n + 1) := by omega
      rw [powRec, if_neg hone, ih half_ne half_lt half_pos, half, Nat.log2_def b.toNat, if_pos two_le, powBits_succ]
      rfl

/-- The work an accept starts leads to the command's result. -/
theorem workResult_startWork {op : BitVec 2} {a b : Word} (h : inDomain op a b) :
    workResult a b (startWork op a b) = commandResult op a b := by
  rcases h with ⟨rfl, _⟩ | ⟨rfl, hb⟩ | rfl
  · rfl
  · have start : startWork 1#2 a b = .pow (canonical a) (Nat.log2 b.toNat) := by simp [startWork, bitlen, hb]
    have result : commandResult 1#2 a b = some (powRec (canonical a) 63 b) := by
      simp [commandResult, powmodAlg, hb]
    rw [start, result, workResult, powRec_eq_powBits _ hb b.isLt]
  · rfl

/-- Settles O43: no iteration changes the result the work leads to, and the accept starts it at the command's. -/
theorem unitScheduleIsNotObservable : Obligations.UnitScheduleIsNotObservable := fun n op a b h => by
  rw [workResult_workRun, workResult_startWork h]

/-! ## STATUS and the reset state -/

/-- Above its four flags STATUS holds ERRCODE and, above that, LASTOP (R25). -/
theorem extractLsb'_statusWord (s : State) {k len : Nat} (h : k + 4 + len ≤ 64) :
    (statusWord s).extractLsb' (k + 4) len = (s.lastop ++ s.errcode).extractLsb' k len := by
  rw [statusWord, BitVec.extractLsb'_setWidth_of_le h, BitVec.extractLsb'_append_eq_of_le (by omega),
    BitVec.extractLsb'_append_eq_of_le (by omega), BitVec.extractLsb'_append_eq_of_le (by omega),
    BitVec.extractLsb'_append_eq_of_le (by omega)]
  rfl

/-- Settles O13: the flags bit by bit, and what stands above them. -/
theorem statusLayout : Obligations.StatusLayout := by
  intro s
  simp only [statusWord, BitVec.getLsbD_setWidth, BitVec.getLsbD_append, BitVec.getLsbD_ofBool]
  refine ⟨rfl, rfl, rfl, rfl, ?errcode, ?lastop, ?reserved⟩
  case errcode =>
    exact (extractLsb'_statusWord s (k := 0) (by decide)).trans
      ((BitVec.extractLsb'_append_eq_of_add_le (by decide)).trans BitVec.extractLsb'_eq_self)
  case lastop =>
    exact (extractLsb'_statusWord s (k := 4) (by decide)).trans
      ((BitVec.extractLsb'_append_eq_of_le (by decide)).trans BitVec.extractLsb'_eq_self)
  case reserved =>
    refine (extractLsb'_statusWord s (k := 6) (by decide)).trans (BitVec.eq_of_getLsbD_eq fun i _ => ?_)
    rw [BitVec.getLsbD_extractLsb', BitVec.getLsbD_of_ge _ (6 + i) (by omega)]
    simp

/-- Settles O8. -/
theorem resetValues : Obligations.ResetValues :=
  ⟨rfl, rfl, rfl, rfl, rfl, rfl, rfl, rfl, rfl, rfl, rfl, rfl, rfl⟩

/-- A reset leaves the invariants in place, whatever the host is going to present (R43). -/
theorem stateInv_applyReset (s : State) : StateInv (applyReset s) := by constructor <;> simp

/-- Settles O44. -/
theorem invariantsHoldAtReset : Obligations.InvariantsHoldAtReset := fun ps =>
  ⟨stateInv_applyReset { State.reset with inbox := ps }, .inl rfl⟩

section

variable {s t u : State} {r : BusRequest} {w : Word}

/-! ## What a transaction does to the command in flight, RESULT and the flags -/

/-- The command in flight in `s` is in flight in `t`, with the latch, LASTOP and RESULT as they were (R33, R157). -/
structure SameCommand (s t : State) : Prop where
  pend : t.pend = true
  op : t.op = s.op
  a : t.a = s.a
  b : t.b = s.b
  lastop : t.lastop = s.lastop
  result : t.result = s.result

/-- The command latched in `s` has completed in `t`, with its own result (R160). -/
structure Completes (s t : State) : Prop where
  pend : t.pend = false
  done : t.done = true
  err : t.err = false
  result : commandResult s.op s.a s.b = some t.result

/-- `t` has the command of the acceptable word `w` latched, on OPA and OPB as they stand in `s` (R157). -/
structure Accepts (w : Word) (s t : State) : Prop where
  acceptable : Acceptable w s
  op : t.op = opField w
  a : t.a = s.opa
  b : t.b = s.opb

theorem SameCommand.trans (h : SameCommand s t) (h' : SameCommand t u) : SameCommand s u :=
  ⟨h'.pend, h'.op.trans h.op, h'.a.trans h.a, h'.b.trans h.b, h'.lastop.trans h.lastop, h'.result.trans h.result⟩

/-- The command that completes is the one that was in flight before. -/
theorem SameCommand.completes (h : SameCommand s t) (h' : Completes t u) : Completes s u :=
  { h' with result := by rw [← h.op, ← h.a, ← h.b, h'.result] }

theorem completes_of_complete (h : complete s = .next t) : Completes s t := by
  obtain ⟨r, hr, rfl⟩ := complete_next_iff.1 h
  exact ⟨rfl, rfl, rfl, hr⟩

@[simp] theorem writeCmd_result (w : Word) (s : State) : (writeCmd w s).result = s.result := by
  rcases writeCmd_cases w s with ⟨_, e⟩ | ⟨_, _, _, e⟩ | ⟨_, _, e⟩ <;> simp [e]

/-- R154, R182: OVR is set by a CMD write while BUSY, and kept by any other. -/
@[simp] theorem writeCmd_ovr (w : Word) (s : State) : (writeCmd w s).ovr = (s.pend || s.ovr) := by
  rcases writeCmd_cases w s with ⟨hp, e⟩ | ⟨hp, _, _, e⟩ | ⟨hp, _, e⟩ <;> simp [e, hp]

/-- A CMD write sets ERR only together with DONE (R183), and clears DONE only together with ERR (R156). -/
theorem writeCmd_err_of_not_done (herr : (writeCmd w s).err = true) (hdone : (writeCmd w s).done = false) :
    s.err = true ∧ s.done = false := by
  rcases writeCmd_cases w s with ⟨_, e⟩ | ⟨_, _, _, e⟩ | ⟨_, _, e⟩ <;> rw [e] at herr hdone
  · exact ⟨herr, hdone⟩
  · simp at hdone
  · simp at herr

/-- R33: no transaction changes RESULT. -/
theorem present_result (h : present r s = .next t) : t.result = s.result := by
  rcases present_effect h with ⟨_, _, _, rfl⟩ | ⟨_, rfl⟩ | ⟨_, rfl⟩ | ⟨_, rfl⟩ | ⟨_, rfl⟩ | ⟨_, rfl⟩ <;> simp

/-- R154, R157: no transaction touches a command in flight, a CMD write included. -/
theorem present_busy (hp : s.pend = true) (h : present r s = .next t) : SameCommand s t := by
  rcases present_effect h with ⟨_, _, _, rfl⟩ | ⟨_, rfl⟩ | ⟨_, rfl⟩ | ⟨_, rfl⟩ | ⟨_, rfl⟩ | ⟨_, rfl⟩
  case inr.inr.inr.inr.inr =>
    rw [writeCmd, issue_busy hp]
    exact ⟨hp, rfl, rfl, rfl, rfl, rfl⟩
  all_goals exact ⟨hp, rfl, rfl, rfl, rfl, rfl⟩

/-- R21, R156, R157: only the CMD write of an acceptable word makes an IDLE block BUSY. -/
theorem present_starts (hidle : s.pend = false) (h : present r s = .next t) (hbusy : t.pend = true) :
    WritesSlot .cmd r ∧ Accepts r.wdata s t := by
  rcases present_effect h with ⟨_, _, _, rfl⟩ | ⟨_, rfl⟩ | ⟨_, rfl⟩ | ⟨_, rfl⟩ | ⟨_, rfl⟩ | ⟨hw, rfl⟩
  case inr.inr.inr.inr.inr =>
    rcases writeCmd_cases r.wdata s with ⟨hp, _⟩ | ⟨_, _, _, e⟩ | ⟨_, hacc, e⟩
    · simp [hidle] at hp
    · simp [e, hidle] at hbusy
    · rw [e]
      exact ⟨hw, hacc, rfl, rfl, rfl⟩
  all_goals simp [hidle] at hbusy

/-- R29: a transaction sets OVR only as a CMD write while BUSY. -/
theorem present_ovr_rises (h : present r s = .next t) (hs : s.ovr = false) (ht : t.ovr = true) :
    s.pend = true ∧ WritesSlot .cmd r := by
  rcases present_effect h with ⟨_, _, _, rfl⟩ | ⟨_, rfl⟩ | ⟨_, rfl⟩ | ⟨_, rfl⟩ | ⟨_, rfl⟩ | ⟨hw, rfl⟩
  case inr.inr.inr.inr.inr => exact ⟨by simpa [hs] using ht, hw⟩
  all_goals simp [hs] at ht

/-- R29: a transaction clears OVR only as a STATUS write with bit 3 set. -/
theorem present_ovr_falls (h : present r s = .next t) (hs : s.ovr = true) (ht : t.ovr = false) :
    WritesSlot .status r ∧ r.wdata.getLsbD 3 = true := by
  rcases present_effect h with ⟨_, _, _, rfl⟩ | ⟨_, rfl⟩ | ⟨_, rfl⟩ | ⟨hw, rfl⟩ | ⟨_, rfl⟩ | ⟨_, rfl⟩
  case inr.inr.inr.inl => exact ⟨hw, by simpa [hs] using ht⟩
  all_goals simp [hs] at ht

/-- R44 item 4: a transaction leaves ERR without DONE only where it was so, or as a STATUS write that clears DONE and
not ERR. -/
theorem present_err_of_not_done (h : present r s = .next t) (herr : t.err = true) (hdone : t.done = false) :
    s.err = true ∧ (s.done = false ∨
      WritesSlot .status r ∧ r.wdata.getLsbD 1 = true ∧ r.wdata.getLsbD 2 = false) := by
  rcases present_effect h with ⟨_, _, _, rfl⟩ | ⟨_, rfl⟩ | ⟨_, rfl⟩ | ⟨hw, rfl⟩ | ⟨_, rfl⟩ | ⟨_, rfl⟩
  case inr.inr.inr.inl =>
    rw [respond_err, writeStatus_err, Bool.and_eq_true, Bool.not_eq_true'] at herr
    rw [respond_done, writeStatus_done, Bool.and_eq_false_iff, Bool.not_eq_false'] at hdone
    exact ⟨herr.1, hdone.imp_right fun h1 => ⟨hw, h1, herr.2⟩⟩
  case inr.inr.inr.inr.inr =>
    obtain ⟨he, hd⟩ := writeCmd_err_of_not_done herr hdone
    exact ⟨he, .inl hd⟩
  all_goals exact ⟨herr, .inl hdone⟩

/-! ## One step: the host's part and the core's part -/

/-- What the host's part of a cycle without reset does: one port sample is used up, and either nothing is presented or
the transaction it presents is performed (R70, R200). -/
inductive HostPart (s : State) : State → Prop where
  | quiet (rest : List PortCycle) (x : Response) : HostPart s { s with inbox := rest, resp := x }
  | transaction (rest : List PortCycle) (r : BusRequest) (u : State) :
      Presents s r → present r { s with inbox := rest } = .next u → HostPart s u

theorem hostPart_of_hostCycle {req : Option BusRequest} {rest : List PortCycle}
    (hreq : ∀ r, req = some r → Presents s r) (h : hostCycle req { s with inbox := rest } = .next u) :
    HostPart s u := by
  cases req with
  | none =>
    obtain rfl : noResponse { s with inbox := rest } = u := Host.Outcome.next.inj h
    exact .quiet rest _
  | some r => exact .transaction rest r u (hreq r rfl) h

/-- Everything a step can do: a reset, or the host's part and then the core's (R70, R201). -/
theorem step_parts (h : step s = .next t) :
    (ResetsNext s ∧ ∃ v, t = applyReset v) ∨ ∃ u, HostPart s u ∧ coreCycle s.pend u = .next t := by
  rcases step_cases h with ⟨hi, hc⟩ | ⟨⟨rst, req⟩, rest, hi, hr, ht⟩ | ⟨⟨rst, req⟩, rest, hi, hr, hc⟩
  · obtain ⟨u, hu, hcore⟩ := clockCycle_next.1 hc
    exact .inr ⟨u, hostPart_of_hostCycle (rest := s.inbox) (fun _ hnone => by cases hnone) hu, hcore⟩
  · obtain rfl : rst = true := hr
    exact .inl ⟨⟨req, rest, hi⟩, _, ht⟩
  · obtain rfl : rst = false := hr
    obtain ⟨u, hu, hcore⟩ := clockCycle_next.1 hc
    exact .inr ⟨u, hostPart_of_hostCycle (fun r hsome => ⟨rest, hsome ▸ hi⟩) hu, hcore⟩

theorem HostPart.result (h : HostPart s u) : u.result = s.result := by
  cases h with
  | quiet => rfl
  | transaction rest r u _ hp => exact present_result (s := { s with inbox := rest }) hp

theorem HostPart.busy (h : HostPart s u) (hbusy : s.pend = true) : SameCommand s u := by
  cases h with
  | quiet => exact ⟨hbusy, rfl, rfl, rfl, rfl, rfl⟩
  | transaction rest r u _ hp =>
    exact { present_busy (s := { s with inbox := rest }) hbusy hp with }

/-- The core's part of a cycle keeps the command in flight or completes it. -/
theorem coreCycle_busy (hbusy : s.pend = true) (h : coreCycle true s = .next t) : SameCommand s t ∨ Completes s t := by
  rcases coreCycle_cases h with ⟨hno, _⟩ | ⟨_, _, hc⟩ | ⟨_, _, rfl⟩
  · cases hno
  · exact .inr (completes_of_complete hc)
  · exact .inl ⟨hbusy, rfl, rfl, rfl, rfl, rfl⟩

theorem coreCycle_idle (h : coreCycle false s = .next t) : t = s := (Host.Outcome.next.inj h).symm

/-- The core's part of a cycle leaves OVR as it is (R29). -/
theorem coreCycle_ovr {inFlight : Bool} (h : coreCycle inFlight s = .next t) : t.ovr = s.ovr := by
  rcases coreCycle_cases h with ⟨_, rfl⟩ | ⟨_, _, hc⟩ | ⟨_, _, rfl⟩
  · rfl
  · obtain ⟨_, _, rfl⟩ := complete_next_iff.1 hc
    rfl
  · rfl

/-- A completion sets DONE, so ERR without DONE is not the core's doing (R160). -/
theorem coreCycle_err_of_not_done {inFlight : Bool} (h : coreCycle inFlight s = .next t) (herr : t.err = true)
    (hdone : t.done = false) : s.err = true ∧ s.done = false := by
  rcases coreCycle_cases h with ⟨_, rfl⟩ | ⟨_, _, hc⟩ | ⟨_, _, rfl⟩
  · exact ⟨herr, hdone⟩
  · simp [(completes_of_complete hc).done] at hdone
  · exact ⟨herr, hdone⟩

/-- A step while BUSY is a reset, keeps the command in flight, or completes it (R21, R157, R160). -/
theorem step_busy (hbusy : s.pend = true) (h : step s = .next t) :
    ResetsNext s ∨ SameCommand s t ∨ Completes s t := by
  rcases step_parts h with ⟨hr, _⟩ | ⟨u, hu, hc⟩
  · exact .inl hr
  · have hsu := hu.busy hbusy
    rw [hbusy] at hc
    exact .inr ((coreCycle_busy hsu.pend hc).imp hsu.trans hsu.completes)

/-- A step while IDLE is a reset or the host's part alone. -/
theorem step_idle (hidle : s.pend = false) (h : step s = .next t) :
    (ResetsNext s ∧ ∃ v, t = applyReset v) ∨ HostPart s t := by
  rcases step_parts h with hr | ⟨u, hu, hc⟩
  · exact .inl hr
  · rw [hidle] at hc
    exact .inr (coreCycle_idle hc ▸ hu)

end

/-! ## The rules of single steps -/

/-- Settles O49. -/
theorem busyBeginsAndEndsAsStated : Obligations.BusyBeginsAndEndsAsStated := by
  intro s t hstep
  refine ⟨fun hidle hbusy => ?_, fun hbusy hidle => ?_⟩
  · rcases step_idle hidle hstep with ⟨_, _, rfl⟩ | hhost
    · simp at hbusy
    · cases hhost with
      | quiet => simp [hidle] at hbusy
      | transaction rest r _ hpres hp =>
        obtain ⟨hw, hacc⟩ := present_starts (s := { s with inbox := rest }) hidle hp hbusy
        exact ⟨r, hpres, hw, hacc.acceptable⟩
  · rcases step_busy hbusy hstep with hr | hsame | hdone
    · exact .inl hr
    · simp [hsame.pend] at hidle
    · exact .inr ⟨hdone.done, hdone.err, hdone.result⟩

/-- Settles O50. -/
theorem resultChangesOnlyAtCompletion : Obligations.ResultChangesOnlyAtCompletion := by
  intro s t hstep hne
  cases hp : s.pend with
  | false =>
    rcases step_idle hp hstep with ⟨hr, _⟩ | hhost
    · exact .inl hr
    · exact absurd hhost.result hne
  | true =>
    rcases step_busy hp hstep with hr | hsame | hdone
    · exact .inl hr
    · exact absurd hsame.result hne
    · exact .inr ⟨rfl, hdone.pend, hdone.done, hdone.err, hdone.result⟩

/-- Settles O52: the core leaves OVR alone, so its changes are the host's. -/
theorem overrunFlagIsSticky : Obligations.OverrunFlagIsSticky := by
  intro s t hstep
  rcases step_parts hstep with ⟨hr, _, rfl⟩ | ⟨u, hhost, hcore⟩
  · exact ⟨fun _ ht => by simp at ht, fun _ _ => .inl hr⟩
  · rw [coreCycle_ovr hcore]
    cases hhost with
    | quiet rest x => exact ⟨fun hs hu => by simp [hs] at hu, fun hs hu => by simp [hs] at hu⟩
    | transaction rest r _ hpres hp =>
      refine ⟨fun hs hu => ?_, fun hs hu => ?_⟩
      · obtain ⟨hbusy, hw⟩ := present_ovr_rises (s := { s with inbox := rest }) hp hs hu
        exact ⟨hbusy, r, hpres, hw⟩
      · exact .inr ⟨r, hpres, present_ovr_falls (s := { s with inbox := rest }) hp hs hu⟩

/-- Settles O53. -/
theorem errWithoutDoneOnlyByClearingDone : Obligations.ErrWithoutDoneOnlyByClearingDone := by
  intro s t hstep herr hdone
  rcases step_parts hstep with ⟨_, _, rfl⟩ | ⟨u, hhost, hcore⟩
  · simp at herr
  · obtain ⟨hue, hud⟩ := coreCycle_err_of_not_done hcore herr hdone
    cases hhost with
    | quiet => exact .inl ⟨hue, hud⟩
    | transaction rest r _ hpres hp =>
      obtain ⟨hse, hsd | ⟨hw, hbits⟩⟩ := present_err_of_not_done (s := { s with inbox := rest }) hp hue hud
      · exact .inl ⟨hse, hsd⟩
      · exact .inr ⟨hse, r, hpres, hw, hbits⟩

/-! ## The rules of runs of atomic events -/

/-- A command in flight outlasts any transactions, with its latch as it was. -/
theorem eventRun_transactions {rs : List BusRequest} {es : List Event} {s u : State} (hbusy : s.pend = true)
    (h : EventRun (rs.map Event.transaction ++ es) s u) : ∃ t, SameCommand s t ∧ EventRun es t u := by
  induction rs generalizing s with
  | nil => exact ⟨s, ⟨hbusy, rfl, rfl, rfl, rfl, rfl⟩, h⟩
  | cons r rs ih =>
    cases h with
    | cons _ _ _ v _ hr hrest =>
      have hsv := present_busy hbusy hr
      obtain ⟨t, hvt, ht⟩ := ih hsv.pend hrest
      exact ⟨t, hsv.trans hvt, ht⟩

/-- Settles O55. -/
theorem completionUsesLatchedOperands : Obligations.CompletionUsesLatchedOperands := by
  intro rs s t hbusy hrun
  obtain ⟨v, hsv, hlast⟩ := eventRun_transactions hbusy hrun
  cases hlast with
  | cons _ _ _ _ _ hocc hnil =>
    cases hnil
    have h := hsv.completes (completes_of_complete hocc.2)
    exact ⟨h.result, h.pend, h.done, h.err⟩

theorem onlyTransactions_cons {r : BusRequest} {es : List Event} (h : OnlyTransactions es) :
    OnlyTransactions (.transaction r :: es) := List.forall_mem_cons.2 ⟨⟨r, rfl⟩, h⟩

/-- Settles O46, by induction on the run from its start: the first event leaves the last completion or reset of the rest
where it is, or is itself the last one. A command in flight after the first event was so before it, or is the one that
this event accepts. -/
theorem resultIsThatOfLastCompletion : Obligations.ResultIsThatOfLastCompletion := by
  intro es s u hrun
  induction hrun with
  | nil s => exact .inl ⟨by simp [OnlyTransactions], rfl⟩
  | cons e es s t u hocc hrest ih =>
    rcases ih with ⟨hes, hres⟩ | ⟨fs, gs, rfl, hgs, hres⟩ | ⟨fs, gs, rfl, hfs, hgs, hbusy, hres⟩ |
      ⟨fs, r, gs, hs, v, rfl, hgs, hhs, hfs, hv⟩
    · cases e with
      | transaction r => exact .inl ⟨onlyTransactions_cons hes, hres.trans (present_result hocc)⟩
      | completion =>
        obtain ⟨hbusy, hc⟩ := hocc
        exact .inr (.inr (.inl ⟨[], es, rfl, by simp [OnlyTransactions], hes, hbusy,
          hres ▸ (completes_of_complete hc).result⟩))
      | reset =>
        obtain rfl : t = applyReset s := hocc
        exact .inr (.inl ⟨[], es, rfl, hes, hres⟩)
    · exact .inr (.inl ⟨e :: fs, gs, rfl, hgs, hres⟩)
    · cases e with
      | transaction r =>
        cases hp : s.pend with
        | true =>
          have hst := present_busy hp hocc
          exact .inr (.inr (.inl ⟨_ :: fs, gs, rfl, onlyTransactions_cons hfs, hgs, rfl,
            by rw [← hst.op, ← hst.a, ← hst.b, hres]⟩))
        | false =>
          obtain ⟨hw, hst⟩ := present_starts hp hocc hbusy
          exact .inr (.inr (.inr ⟨[], r, fs, gs, s, rfl, hfs, hgs, .nil s, hp, hw, hst.acceptable,
            by rw [← hst.op, ← hst.a, ← hst.b, hres]⟩))
      | completion => simp [(completes_of_complete hocc.2).pend] at hbusy
      | reset =>
        obtain rfl : t = applyReset s := hocc
        simp at hbusy
    · exact .inr (.inr (.inr ⟨e :: fs, r, gs, hs, v, rfl, hgs, hhs, .cons _ _ _ _ _ hocc hfs, hv⟩))

/-! ## Every step keeps the invariants -/

section

variable {s t u : State} {r : BusRequest} {w : Word}

/-- R181: the code of an error completion is 1, 2 or 3. -/
theorem errCodeBits_cases (c : ErrCode) : errCodeBits c = 1#4 ∨ errCodeBits c = 2#4 ∨ errCodeBits c = 3#4 := by
  cases c <;> simp [errCodeBits]

theorem inDomain_mulmod_iff {a b : Word} : inDomain 0#2 a b ↔ a < Config.modulus ∧ b < Config.modulus := by
  simp [inDomain]

theorem inDomain_powmod_iff {a b : Word} : inDomain 1#2 a b ↔ b ≠ 0#64 := by
  simp [inDomain]

/-- The invariants of an accepted command, which the checks of its accept give (R156, R157). -/
theorem stateInv_latch (h : Acceptable w s) : StateInv (latch (opField w) (bookkeep w s)) where
  busyFlags _ := ⟨rfl, rfl, rfl⟩
  errIffCode := by simp
  noErrIffNone := by simp
  busyOp _ := ⟨rfl, h.2.imp And.left (Or.imp_left And.left)⟩
  mulmodDomain _ (hop : opField w = 0#2) := inDomain_mulmod_iff.1 (hop ▸ h.2)
  powmodDomain _ (hop : opField w = 1#2) := inDomain_powmod_iff.1 (hop ▸ h.2)
  idleWork hidle := by simp at hidle
  inTime _ := (Scope.latency_bounds _ _ _).1
  workLeads _ := workResult_startWork h.2

/-- The invariants of an error completion (R183). -/
theorem stateInv_raise (c : ErrCode) (hidle : s.pend = false) (h : StateInv s) :
    StateInv (raise c (bookkeep w s)) where
  busyFlags hbusy := by simp [hidle] at hbusy
  errIffCode := by simp [errCodeBits_cases]
  noErrIffNone := by cases c <;> simp [errCodeBits]
  busyOp hbusy := by simp [hidle] at hbusy
  mulmodDomain hbusy := by simp [hidle] at hbusy
  powmodDomain hbusy := by simp [hidle] at hbusy
  idleWork := h.idleWork
  inTime hbusy := by simp [hidle] at hbusy
  workLeads hbusy := by simp [hidle] at hbusy

theorem stateInv_writeCmd (w : Word) (h : StateInv s) : StateInv (writeCmd w s) := by
  rcases writeCmd_cases w s with ⟨_, e⟩ | ⟨hidle, _, c, e⟩ | ⟨_, hacc, e⟩ <;> rw [e]
  · exact { h with }
  · exact stateInv_raise c hidle h
  · exact stateInv_latch hacc

/-- A STATUS write clears ERR and ERRCODE together (R158). -/
theorem stateInv_writeStatus (v : Word) (h : StateInv s) : StateInv (writeStatus v s) :=
  { h with
    busyFlags := fun hbusy => by simp [h.busyFlags hbusy]
    errIffCode := by
      rw [writeStatus_err, writeStatus_errcode]
      cases v.getLsbD 2 with
      | false => simpa using h.errIffCode
      | true => simp
    noErrIffNone := by
      rw [writeStatus_err, writeStatus_errcode]
      cases v.getLsbD 2 with
      | false => simpa using h.noErrIffNone
      | true => simp }

theorem stateInv_present (h : StateInv s) (hp : present r s = .next t) : StateInv t := by
  rcases present_effect hp with ⟨_, _, _, rfl⟩ | ⟨_, rfl⟩ | ⟨_, rfl⟩ | ⟨_, rfl⟩ | ⟨_, rfl⟩ | ⟨_, rfl⟩
  case inr.inr.inr.inl => exact { stateInv_writeStatus r.wdata h with }
  case inr.inr.inr.inr.inr => exact { stateInv_writeCmd r.wdata h with }
  all_goals exact { h with }

theorem HostPart.stateInv (h : StateInv s) (hhost : HostPart s u) : StateInv u := by
  cases hhost with
  | quiet => exact { h with }
  | transaction rest r u _ hp => exact stateInv_present (s := { s with inbox := rest }) { h with } hp

theorem stateInv_finish (v : Word) (s : State) : StateInv (finish v s) := by constructor <;> simp

/-- The core's part of a cycle, with the command in flight that was so when the cycle began. -/
theorem stateInv_coreCycle {inFlight : Bool} (hbusy : inFlight = true → s.pend = true) (h : StateInv s)
    (hcore : coreCycle inFlight s = .next t) : StateInv t := by
  rcases coreCycle_cases hcore with ⟨_, rfl⟩ | ⟨_, _, hc⟩ | ⟨hflight, hearly, rfl⟩
  · exact h
  · obtain ⟨v, _, rfl⟩ := complete_next_iff.1 hc
    exact stateInv_finish v s
  · exact { h with
      idleWork := fun hidle => by simp [hbusy hflight] at hidle
      inTime := fun _ => hearly
      workLeads := fun hp => (workResult_workRun _ _ _ _).trans (h.workLeads hp) }

end

/-- Settles O45: the host's part of a step keeps the invariants, and the core's part does. -/
theorem stepKeepsInvariants : Obligations.StepKeepsInvariants := by
  intro s t h hstep
  rcases step_parts hstep with ⟨_, v, rfl⟩ | ⟨u, hhost, hcore⟩
  · exact stateInv_applyReset v
  · exact stateInv_coreCycle (fun hbusy => (hhost.busy hbusy).pend) (hhost.stateInv h) hcore

end Sys2Proof.StateRules

/-! PROOFS. The register window and the block's memory (20_memory.md): reads, the bytes of the window and the frame of the
instructions (R62, R64, R66, R150, R151), the completion (R71), the command DONE belongs to (R72), and the clocked runs as
interleavings of atomic steps (R69, R70). -/

namespace Sys2Proof.MemoryRules

open Sys2Proof.Machine Sys2Proof.Safety Sys2Proof.StateRules

section

variable {s t : State}

/-! ## Reads, and what a response leaves unchanged -/

@[simp] theorem readSlot_respond (k : Slot) (d : Word) (s : State) : readSlot k (respond d s) = readSlot k s := by
  cases k <;> rfl

@[simp] theorem readSlot_busError (k : Slot) (s : State) : readSlot k (busError s) = readSlot k s := by
  cases k <;> rfl

/-- A byte of the window is one of its slot's value, so what keeps the value keeps the byte (R62). -/
theorem windowByte_eq_of_readSlot_eq {o : Offset} (h : readSlot (slotOf o) t = readSlot (slotOf o) s) :
    windowByte t o = windowByte s o := by
  rw [windowByte, windowByte, h]

theorem exec_busRead_offsetOf (k : Slot) (s : State) :
    exec (.busRead (offsetOf k)) s = .next (respond (readSlot k s) s) := by
  rw [exec, execBusRead, aligned_offsetOf, if_pos rfl, slotOf_offsetOf]

/-- A read leads to a response or a bus error. -/
theorem exec_busRead_cases {addr : Offset} (h : exec (.busRead addr) s = .next t) :
    (∃ d, t = respond d s) ∨ t = busError s := by
  rw [exec, execBusRead] at h
  split_ifs at h
  · exact .inl ⟨_, (Host.Outcome.next.inj h).symm⟩
  · exact .inr (Host.Outcome.next.inj h).symm

/-- A write leads to its slot's effect and response, or to a bus error. -/
theorem exec_busWrite_cases {addr : Offset} {v : Word} (h : exec (.busWrite addr v) s = .next t) :
    (aligned addr = true ∧ t = respond 0#64 (writeSlot (slotOf addr) v s)) ∨
    (aligned addr = false ∧ t = busError s) := by
  rw [exec, execBusWrite] at h
  split_ifs at h with ha
  · exact .inl ⟨ha, (Host.Outcome.next.inj h).symm⟩
  · exact .inr ⟨Bool.eq_false_of_not_eq_true ha, (Host.Outcome.next.inj h).symm⟩

/-- The three commands are CMD writes of their words (R83, R155). -/
theorem exec_command {i : Instr} (h : i = .mulmod ∨ i = .powmod ∨ i = .tag) (s : State) :
    ∃ w, exec i s = .next (respond 0#64 (writeCmd w s)) := by
  rcases h with rfl | rfl | rfl
  · exact ⟨mulmodWord, rfl⟩
  · exact ⟨powmodWord, rfl⟩
  · exact ⟨tagWord, rfl⟩

/-! ## The frame of the instructions -/

/-- The slot whose value a write to a slot can change: a CMD write changes STATUS, and CMD itself reads 0 (R24). -/
def slotChangedBy (k : Slot) : Slot := if k = .cmd then .status else k

/-- R154 to R157, R183: a CMD write changes STATUS alone of what the host can read. -/
theorem readSlot_writeCmd {k : Slot} (h : k ≠ .status) (w : Word) (s : State) :
    readSlot k (writeCmd w s) = readSlot k s := by
  cases k with
  | status => exact absurd rfl h
  | opa | opb | cmd | result | ctrl | modulus | reserved =>
    rcases writeCmd_cases w s with ⟨_, e⟩ | ⟨_, _, _, e⟩ | ⟨_, _, e⟩ <;> rw [e] <;> rfl

/-- A write to a slot changes no other slot (R151). -/
theorem readSlot_writeSlot {j k : Slot} (h : k ≠ slotChangedBy j) (v : Word) (s : State) :
    readSlot k (writeSlot j v s) = readSlot k s := by
  cases j with
  | cmd => exact readSlot_writeCmd h v s
  | result | modulus | reserved => rfl
  | opa | opb | status | ctrl => cases k <;> simp [slotChangedBy, writeSlot, readSlot, statusWord, ctrlWord] at h ⊢

end

/-- Settles O17: a read's response and a bus error are no part of the window, and a write changes one slot. -/
theorem transactionsKeepOtherBytes : Obligations.TransactionsKeepOtherBytes := by
  refine ⟨fun addr s t h o => ?read, fun addr v s t h o ho => ?write, fun i s t hi h o ho => ?command⟩ <;>
    refine windowByte_eq_of_readSlot_eq ?_
  case read => rcases exec_busRead_cases h with ⟨d, rfl⟩ | rfl <;> simp
  case write =>
    rcases exec_busWrite_cases h with ⟨_, rfl⟩ | ⟨_, rfl⟩
    · rw [readSlot_respond, readSlot_writeSlot ho]
    · rw [readSlot_busError]
  case command =>
    obtain ⟨w, hw⟩ := exec_command hi s
    obtain rfl := Host.Outcome.next.inj (hw.symm.trans h)
    rw [readSlot_respond, readSlot_writeCmd ho]

/-- Settles O12. -/
theorem busReadReturnsSlot : Obligations.BusReadReturnsSlot := fun s =>
  ⟨exec_busRead_offsetOf .opa s, exec_busRead_offsetOf .opb s, exec_busRead_offsetOf .cmd s,
    exec_busRead_offsetOf .status s, exec_busRead_offsetOf .result s, exec_busRead_offsetOf .ctrl s,
    exec_busRead_offsetOf .modulus s, exec_busRead_offsetOf .reserved s⟩

/-- The eight offsets from a slot's own on: the slot in bits 5:3, the byte in bits 2:0 (R61, R81). -/
theorem offset_in_slot (k : Slot) : ∀ j < 8, slotOf (offsetOf k + BitVec.ofNat 6 j) = k ∧
    ((offsetOf k + BitVec.ofNat 6 j).extractLsb' 0 3).toNat = j := by
  cases k <;> decide

/-- Settles O14. -/
theorem windowBytesAreLittleEndian : Obligations.WindowBytesAreLittleEndian := by
  intro s k j hj
  obtain ⟨hslot, hbyte⟩ := offset_in_slot k j hj
  rw [windowByte, hslot, hbyte, byteOf]

/-! ## Single transactions and the completion -/

/-- Settles O5. -/
theorem stepRunsDecodedTransaction : Obligations.StepRunsDecodedTransaction := by
  intro s r rest i hinbox hdecode
  have hpresent : present r { s with inbox := rest } = exec i { s with inbox := rest } := by rw [present, hdecode]
  have hstep : step s = clockCycle (some r) { s with inbox := rest } := by simp [step, hinbox]
  rw [hstep, clockCycle, hostCycle, hpresent]

/-- Settles O10. -/
theorem misalignedTransactionIsBusError : Obligations.MisalignedTransactionIsBusError := by
  intro r s h
  have hmis : aligned r.addr = false := by simpa [aligned] using h
  refine ⟨?_, ?_, ?_, rfl⟩
  · rw [present, decodeBus_error_iff.2 ⟨hmis, rfl⟩]
    rfl
  · rw [exec, execBusRead, hmis]
    rfl
  · rw [exec, execBusWrite, hmis]
    rfl

/-- R66: the write effect of every slot but CMD is idempotent, whatever the response in between. -/
theorem writeSlot_idempotent {k : Slot} (h : k ≠ .cmd) (v : Word) (s : State) :
    respond 0#64 (writeSlot k v (respond 0#64 (writeSlot k v s))) = respond 0#64 (writeSlot k v s) := by
  cases k with
  | cmd => exact absurd rfl h
  | status =>
    simp only [writeSlot, writeStatus, respond, Bool.and_assoc, Bool.and_self, State.mk.injEq, true_and, and_true]
    split <;> rfl
  | opa | opb | result | ctrl | modulus | reserved => rfl

/-- Settles O18: a bus error is no less idempotent than the write of a slot. -/
theorem writesButCmdAreIdempotent : Obligations.WritesButCmdAreIdempotent := by
  intro addr v s t hslot h
  rcases exec_busWrite_cases h with ⟨ha, rfl⟩ | ⟨ha, rfl⟩
  · rw [exec, execBusWrite, if_pos ha, writeSlot_idempotent hslot]
  · rw [exec, execBusWrite, ha]
    rfl

/-- Settles O27: the completion is `finish` on the command's result. -/
theorem completionWritesResult : Obligations.CompletionWritesResult := by
  intro s
  refine ⟨fun h => ?_, fun h hb => ?_, fun h => ?_⟩
  · exact complete_next_iff.2 ⟨_, by rw [h]; rfl, rfl⟩
  · have hpow : powmodAlg s.a s.b = some (powRec (canonical s.a) 63 s.b) := if_neg hb
    exact ⟨_, hpow, complete_next_iff.2 ⟨_, by rw [h]; exact hpow, rfl⟩⟩
  · exact complete_next_iff.2 ⟨_, by rw [h]; rfl, rfl⟩

section

variable {s t u : State} {r : BusRequest} {w : Word} {es : List Event}

/-! ## DONE belongs to the last command (R72) -/

/-- An invariant of atomic steps holds after every run of the events it is kept by. -/
theorem eventRun_keeps {P : State → Prop} {ok : Event → Prop}
    (hstep : ∀ {e s t}, ok e → Occurs e s t → P s → P t) (hrun : EventRun es s t) (hok : ∀ e ∈ es, ok e) (hs : P s) :
    P t := by
  induction hrun with
  | nil => exact hs
  | cons e es s t u hocc _ ih =>
    obtain ⟨he, hes⟩ := List.forall_mem_cons.1 hok
    exact ih hes (hstep he hocc hs)

/-- Neither a reset nor a CMD write: the events that leave the last command the last one. -/
def KeepsLastCommand (e : Event) : Prop := e ≠ .reset ∧ ∀ r, e = .transaction r → ¬ WritesSlot .cmd r

/-- The premise of R72 (b), as log 17 reads it: no STATUS write that clears ERR and not DONE. -/
def KeepsErrWithDone (e : Event) : Prop :=
  ∀ r, e = .transaction r → WritesSlot .status r → ¬ ClearsErrAlone r.wdata

/-- What a transaction other than a CMD write keeps: the command in flight or the lack of one, the latch, LASTOP and
RESULT; and it sets neither DONE nor ERR. -/
structure KeepsCommand (s t : State) : Prop where
  pend : t.pend = s.pend
  op : t.op = s.op
  a : t.a = s.a
  b : t.b = s.b
  lastop : t.lastop = s.lastop
  result : t.result = s.result
  done : s.done = false → t.done = false
  err : s.err = false → t.err = false

theorem present_keepsCommand (hcmd : ¬ WritesSlot .cmd r) (h : present r s = .next t) : KeepsCommand s t := by
  rcases present_effect h with ⟨_, _, _, rfl⟩ | ⟨_, rfl⟩ | ⟨_, rfl⟩ | ⟨_, rfl⟩ | ⟨_, rfl⟩ | ⟨hw, _⟩
  case inr.inr.inr.inr.inr => exact absurd hw hcmd
  all_goals constructor <;> simp +contextual

/-- A transaction other than a CMD write that does not clear ERR alone leaves no DONE without ERR where there was
none. -/
theorem present_err_of_done (hcmd : ¬ WritesSlot .cmd r) (hstatus : WritesSlot .status r → ¬ ClearsErrAlone r.wdata)
    (h : present r s = .next t) (hs : s.done = true → s.err = true) (ht : t.done = true) : t.err = true := by
  rcases present_effect h with ⟨_, _, _, rfl⟩ | ⟨_, rfl⟩ | ⟨_, rfl⟩ | ⟨hw, rfl⟩ | ⟨_, rfl⟩ | ⟨hw, _⟩
  case inr.inr.inr.inl =>
    obtain ⟨hdone, hbit1⟩ : s.done = true ∧ r.wdata.getLsbD 1 = false := by simpa using ht
    have hbit2 : r.wdata.getLsbD 2 = false := Bool.eq_false_of_not_eq_true fun h2 => hstatus hw ⟨h2, hbit1⟩
    rw [respond_err, writeStatus_err, hs hdone, hbit2]
    rfl
  case inr.inr.inr.inr.inr => exact absurd hw hcmd
  all_goals exact hs ht

/-- The CMD write of `w` in `s` was rejected: the block is IDLE with the old RESULT (R183). -/
structure Rejected (w : Word) (s u : State) : Prop where
  notAcceptable : ¬ Acceptable w s
  pend : u.pend = false
  lastop : u.lastop = opField w
  result : u.result = s.result

/-- The command of `w`, accepted in `s`, is in flight (R157), with DONE and ERR as its accept cleared them (R156). -/
structure Pending (w : Word) (s u : State) : Prop extends Accepts w s u where
  pend : u.pend = true
  lastop : u.lastop = opField w
  done : u.done = false
  err : u.err = false

/-- The command of `w`, accepted in `s`, has completed (R160). -/
structure Completed (w : Word) (s u : State) : Prop where
  acceptable : Acceptable w s
  pend : u.pend = false
  lastop : u.lastop = opField w
  err : u.err = false
  result : commandResult (opField w) s.opa s.opb = some u.result

/-- A CMD write while IDLE is rejected with DONE and ERR set, or it starts its command. -/
theorem cmdWrite_cases (hidle : s.pend = false) (h : present (cmdRequest w) s = .next t) :
    (Rejected w s t ∧ t.err = true) ∨ Pending w s t := by
  obtain rfl := Host.Outcome.next.inj ((present_cmdRequest w s).symm.trans h)
  rcases writeCmd_cases w s with ⟨hp, _⟩ | ⟨_, hna, c, e⟩ | ⟨_, hacc, e⟩
  · simp [hidle] at hp
  · rw [e]
    exact .inl ⟨⟨hna, hidle, rfl, rfl⟩, rfl⟩
  · rw [e]
    exact .inr ⟨⟨hacc, rfl, rfl, rfl⟩, rfl, rfl, rfl, rfl⟩

theorem Rejected.occurs {e : Event} (he : KeepsLastCommand e) (hocc : Occurs e t u) (h : Rejected w s t) :
    Rejected w s u := by
  cases e with
  | transaction r =>
    have hk := present_keepsCommand (he.2 r rfl) hocc
    exact ⟨h.notAcceptable, hk.pend.trans h.pend, hk.lastop.trans h.lastop, hk.result.trans h.result⟩
  | completion => exact absurd hocc.1 (by simp [h.pend])
  | reset => exact absurd rfl he.1

/-- After a rejected command, DONE stays together with ERR unless the host clears ERR alone (log 17). -/
theorem Rejected.occurs_err {e : Event} (he : KeepsLastCommand e ∧ KeepsErrWithDone e) (hocc : Occurs e t u)
    (h : Rejected w s t ∧ (t.done = true → t.err = true)) : Rejected w s u ∧ (u.done = true → u.err = true) := by
  refine ⟨h.1.occurs he.1 hocc, ?_⟩
  cases e with
  | transaction r => exact present_err_of_done (he.1.2 r rfl) (he.2 r rfl) hocc h.2
  | completion => exact absurd hocc.1 (by simp [h.1.pend])
  | reset => exact absurd rfl he.1.1

/-- A command in flight stays so until it completes, and then is the one completed. -/
theorem Pending.occurs {e : Event} (he : KeepsLastCommand e) (hocc : Occurs e t u)
    (h : Pending w s t ∨ Completed w s t) : Pending w s u ∨ Completed w s u := by
  cases e with
  | transaction r =>
    have hk := present_keepsCommand (he.2 r rfl) hocc
    refine h.imp (fun hp => ?_) fun hc => ?_
    · exact ⟨⟨hp.acceptable, hk.op.trans hp.op, hk.a.trans hp.a, hk.b.trans hp.b⟩, hk.pend.trans hp.pend,
        hk.lastop.trans hp.lastop, hk.done hp.done, hk.err hp.err⟩
    · exact ⟨hc.acceptable, hk.pend.trans hc.pend, hk.lastop.trans hc.lastop, hk.err hc.err, hk.result ▸ hc.result⟩
  | completion =>
    obtain ⟨hbusy, hcomplete⟩ := hocc
    rcases h with hp | hc
    · obtain ⟨v, hv, rfl⟩ := complete_next_iff.1 hcomplete
      rw [hp.op, hp.a, hp.b] at hv
      exact .inr ⟨hp.acceptable, rfl, hp.lastop, rfl, hv⟩
    · simp [hc.pend] at hbusy
  | reset => exact absurd rfl he.1

end

/-- Settles O56, by the outcome of the CMD write: after a rejected one no completion is enabled; after an accepted one
DONE waits for its completion, which clears ERR. -/
theorem doneBelongsToLastCommand : Obligations.DoneBelongsToLastCommand := by
  intro w es s t u hidle hwrite hrun hes hdone
  rcases cmdWrite_cases hidle hwrite with ⟨hrej, hterr⟩ | hpend
  · have hu := eventRun_keeps Rejected.occurs hrun hes hrej
    refine ⟨⟨hu.pend, hu.lastop⟩, fun hclear herr => ?_, fun _ => ⟨hu.notAcceptable, hu.result⟩⟩
    have hok : ∀ e ∈ es, KeepsLastCommand e ∧ KeepsErrWithDone e := fun e he =>
      ⟨hes e he, fun r hr => hclear r (hr ▸ he)⟩
    have huerr := (eventRun_keeps Rejected.occurs_err hrun hok ⟨hrej, fun _ => hterr⟩).2 hdone
    simp [huerr] at herr
  · rcases eventRun_keeps Pending.occurs hrun hes (.inl hpend) with hu | hu
    · simp [hu.done] at hdone
    · exact ⟨⟨hu.pend, hu.lastop⟩, fun _ _ => ⟨hu.acceptable, hu.result⟩, fun herr => by simp [hu.err] at herr⟩

section

variable {s s' t u : State} {r : BusRequest}

/-! ## Clocked runs as interleavings (R69, R70) -/

theorem readSlot_arch (k : Slot) (s : State) : readSlot k (arch s) = readSlot k s := by cases k <;> rfl

/-- What follows the bookkeeping of a CMD write looks at the registers alone. -/
theorem arch_acceptWord (w : Word) (s : State) : arch (acceptWord w (arch s)) = arch (acceptWord w s) := by
  have mulmod : arch (acceptMulmod (arch s)) = arch (acceptMulmod s) := by
    rw [acceptMulmod, acceptMulmod, show outOfRange (arch s) = outOfRange s from rfl]
    split <;> rfl
  have powmod : arch (acceptPowmod (arch s)) = arch (acceptPowmod s) := by
    rw [acceptPowmod, acceptPowmod, show zeroExponent (arch s) = zeroExponent s from rfl]
    split <;> rfl
  unfold acceptWord
  split
  · exact mulmod
  · exact powmod
  all_goals rfl

theorem arch_writeCmd (w : Word) (s : State) : arch (writeCmd w (arch s)) = arch (writeCmd w s) := by
  cases hp : s.pend with
  | true =>
    have hp' : (arch s).pend = true := hp
    rw [writeCmd, writeCmd, issue_busy hp, issue_busy hp']
    rfl
  | false =>
    have hp' : (arch s).pend = false := hp
    rw [writeCmd, writeCmd, issue_idle hp, issue_idle hp']
    exact arch_acceptWord w (bookkeep w s)

theorem arch_writeSlot (k : Slot) (v : Word) (s : State) : arch (writeSlot k v (arch s)) = arch (writeSlot k v s) := by
  cases k with
  | cmd => exact arch_writeCmd v s
  | opa | opb | status | result | ctrl | modulus | reserved => rfl

/-- Whether a transaction is a bus error, a read or a write is a matter of its request. -/
theorem present_forms (r : BusRequest) :
    (∀ s, present r s = .next (busError s)) ∨
    (∀ s, present r s = .next (respond (readSlot (slotOf r.addr) s) s)) ∨
    (∀ s, present r s = .next (respond 0#64 (writeSlot (slotOf r.addr) r.wdata s))) := by
  unfold present decodeBus
  cases ha : aligned r.addr with
  | false => exact .inl fun _ => rfl
  | true => cases hw : r.we <;> simp [exec, execBusRead, execBusWrite, ha]

/-- A transaction reads and writes the registers alone: the model's clock, work and ports change neither its effect nor
its response. -/
theorem present_of_arch_eq (harch : arch s' = arch s) (h : present r s = .next t) :
    ∃ t', present r s' = .next t' ∧ arch t' = arch t ∧ t'.resp = t.resp := by
  rcases present_forms r with hform | hform | hform <;> obtain rfl := Host.Outcome.next.inj ((hform s).symm.trans h)
  · exact ⟨_, hform s', harch, rfl⟩
  · refine ⟨_, hform s', harch, ?_⟩
    rw [respond_resp, respond_resp, ← readSlot_arch, harch, readSlot_arch]
  · have hwrite : arch (writeSlot (slotOf r.addr) r.wdata s') = arch (writeSlot (slotOf r.addr) r.wdata s) := by
      rw [← arch_writeSlot, harch, arch_writeSlot]
    exact ⟨_, hform s', hwrite, rfl⟩

/-- A completion reads and writes the registers and the latch alone. -/
theorem complete_of_arch_eq (harch : arch s' = arch s) (h : complete s = .next t) :
    ∃ t', complete s' = .next t' ∧ arch t' = arch t := by
  obtain ⟨v, hv, rfl⟩ := complete_next_iff.1 h
  have hlatch : s'.op = s.op ∧ s'.a = s.a ∧ s'.b = s.b := by
    rw [arch_eq harch.symm]
    exact ⟨rfl, rfl, rfl⟩
  have hfinish : arch (finish v (arch s')) = arch (finish v (arch s)) := by rw [harch]
  obtain ⟨hop, ha, hb⟩ := hlatch
  exact ⟨_, complete_next_iff.2 ⟨v, by rwa [hop, ha, hb], rfl⟩, hfinish⟩

/-- Some atomic events lead from `s` to the registers and the latch of `t`; `rs` are their transactions and `xs` the
responses to them. -/
def Interleaves (rs : List BusRequest) (xs : List Response) (s t : State) : Prop :=
  ∃ es u, EventRun es s u ∧ arch u = arch t ∧ transactionsOf es = rs ∧ eventResponses es s = xs

theorem Interleaves.nil (h : arch s = arch t) : Interleaves [] [] s t := ⟨[], s, .nil s, h, rfl, rfl⟩

theorem Interleaves.trans {rs rs' : List BusRequest} {xs xs' : List Response} (h : Interleaves rs xs s t)
    (h' : ∀ {t'}, arch t' = arch t → Interleaves rs' xs' t' u) : Interleaves (rs ++ rs') (xs ++ xs') s u := by
  obtain ⟨es, v, hrun, hv, rfl, rfl⟩ := h
  obtain ⟨fs, v', hrun', hv', rfl, rfl⟩ := h' hv
  exact ⟨es ++ fs, v', eventRun_append hrun hrun', hv', List.filterMap_append, eventResponses_append hrun⟩

/-- The host's part of a cycle is its transaction, if it has one. -/
theorem interleaves_hostCycle {req : Option BusRequest} (harch : arch s' = arch s) (h : hostCycle req s = .next t) :
    Interleaves req.toList (req.toList.map fun _ => t.resp) s' t := by
  cases req with
  | none =>
    obtain rfl : noResponse s = t := Host.Outcome.next.inj h
    exact .nil harch
  | some r =>
    obtain ⟨t', ht', hat, hresp⟩ := present_of_arch_eq harch h
    exact ⟨[.transaction r], t', .cons _ _ _ _ _ ht' (.nil t'), hat, rfl,
      (eventResponses_transaction ht' []).trans (by rw [hresp]; rfl)⟩

/-- The core's part of a cycle is a completion or no event at all. -/
theorem interleaves_coreCycle {inFlight : Bool} (hbusy : inFlight = true → s.pend = true) (harch : arch s' = arch s)
    (h : coreCycle inFlight s = .next t) : Interleaves [] [] s' t := by
  rcases coreCycle_cases h with ⟨_, rfl⟩ | ⟨hflight, _, hc⟩ | ⟨_, _, rfl⟩
  · exact .nil harch
  · obtain ⟨t', ht', hat⟩ := complete_of_arch_eq harch hc
    have hpend : s'.pend = true := (congrArg State.pend harch).trans (hbusy hflight)
    exact ⟨[.completion], t', .cons _ _ _ _ _ ⟨hpend, ht'⟩ (.nil t'), hat, rfl, eventResponses_completion ht' []⟩
  · exact .nil harch

/-- The core's part of a cycle leaves the ports as they are. -/
theorem coreCycle_ports {inFlight : Bool} (h : coreCycle inFlight s = .next t) :
    t.inbox = s.inbox ∧ t.resp = s.resp := by
  rcases coreCycle_cases h with ⟨_, rfl⟩ | ⟨_, _, hc⟩ | ⟨_, _, rfl⟩
  · exact ⟨rfl, rfl⟩
  · obtain ⟨_, _, rfl⟩ := complete_next_iff.1 hc
    exact ⟨rfl, rfl⟩
  · exact ⟨rfl, rfl⟩

theorem hostCycle_pend {req : Option BusRequest} (h : hostCycle req s = .next t) (hbusy : s.pend = true) :
    t.pend = true := by
  cases req with
  | none =>
    obtain rfl : noResponse s = t := Host.Outcome.next.inj h
    exact hbusy
  | some r => exact (present_busy hbusy h).pend

/-- A cycle without reset is the host's part and then the core's (R70). -/
theorem interleaves_clockCycle {req : Option BusRequest} (harch : arch s' = arch s) (h : clockCycle req s = .next t) :
    Interleaves req.toList (req.toList.map fun _ => t.resp) s' t := by
  obtain ⟨u, hhost, hcore⟩ := clockCycle_next.1 h
  have hall := (interleaves_hostCycle harch hhost).trans fun hu =>
    interleaves_coreCycle (hostCycle_pend hhost) hu hcore
  rwa [List.append_nil, List.append_nil, ← (coreCycle_ports hcore).2] at hall

@[simp] theorem writeCmd_inbox (w : Word) (s : State) : (writeCmd w s).inbox = s.inbox := by
  rcases writeCmd_cases w s with ⟨_, e⟩ | ⟨_, _, _, e⟩ | ⟨_, _, e⟩ <;> simp [e]

theorem present_inbox (h : present r s = .next t) : t.inbox = s.inbox := by
  rcases present_effect h with ⟨_, _, _, rfl⟩ | ⟨_, rfl⟩ | ⟨_, rfl⟩ | ⟨_, rfl⟩ | ⟨_, rfl⟩ | ⟨_, rfl⟩ <;> simp

theorem clockCycle_inbox {req : Option BusRequest} (h : clockCycle req s = .next t) : t.inbox = s.inbox := by
  obtain ⟨u, hhost, hcore⟩ := clockCycle_next.1 h
  rw [(coreCycle_ports hcore).1]
  cases req with
  | none =>
    obtain rfl : noResponse s = u := Host.Outcome.next.inj hhost
    rfl
  | some r => exact present_inbox hhost

/-- A step uses up one port sample. -/
theorem step_inbox (h : step s = .next t) : t.inbox = s.inbox.drop 1 := by
  rcases step_cases h with ⟨hi, hc⟩ | ⟨_, _, hi, _, rfl⟩ | ⟨_, _, hi, _, hc⟩
  · rw [clockCycle_inbox hc, hi]
    rfl
  · rw [hi]
    rfl
  · rw [clockCycle_inbox hc, hi]
    rfl

/-- One step is a reset, or the transaction of its port sample and what the core does. -/
theorem interleaves_step (harch : arch s' = arch s) (h : step s = .next t) :
    Interleaves (effectiveRequests (s.inbox.take 1))
      ((effectiveRequests (s.inbox.take 1)).map fun _ => t.resp) s' t := by
  rcases step_cases h with ⟨hi, hc⟩ | ⟨p, rest, hi, hr, rfl⟩ | ⟨p, rest, hi, hr, hc⟩
  · rw [hi]
    exact interleaves_clockCycle harch hc
  · have hnone : effectiveRequests (s.inbox.take 1) = [] := by simp [effectiveRequests, hi, hr]
    rw [hnone]
    exact ⟨[.reset], applyReset s', .cons _ _ _ _ _ rfl (.nil _), rfl, rfl, rfl⟩
  · have hreq : effectiveRequests (s.inbox.take 1) = p.req.toList := by
      cases hq : p.req <;> simp [effectiveRequests, hi, hr, hq]
    rw [hreq]
    exact interleaves_clockCycle (s := { s with inbox := rest }) harch hc

/-- The samples of `n + 1` cycles are the first and those of the rest. -/
theorem effectiveRequests_take_succ (ps : List PortCycle) (n : Nat) :
    effectiveRequests (ps.take (n + 1)) = effectiveRequests (ps.take 1) ++ effectiveRequests ((ps.drop 1).take n) := by
  rw [Nat.add_comm, List.take_add, effectiveRequests, List.filterMap_append]
  rfl

/-- Every run of clock cycles, from any state with the registers and the latch of its first. -/
theorem interleaves_runs {n : Nat} (h : Runs n s t) (harch : arch s' = arch s) :
    Interleaves (effectiveRequests (s.inbox.take n)) (cycleResponses n s) s' t := by
  induction h generalizing s' with
  | zero s => exact .nil harch
  | succ n s v t hstep _ ih =>
    rw [effectiveRequests_take_succ, cycleResponses_succ hstep, ← step_inbox hstep]
    exact (interleaves_step harch hstep).trans ih

end

/-- Settles O59: step by step, from any state with the same registers and latch. -/
theorem clockedRunsAreInterleavings : Obligations.ClockedRunsAreInterleavings := fun _ _ _ h =>
  interleaves_runs h rfl

end Sys2Proof.MemoryRules

/-! PROOFS. The encoding (30_encoding.md): command words and headers decode by their fields (R81 to R86, R96), the
encoder against the decoder (R80), and what the decoded instruction does as a CMD write (R83, R155) and in the next
step. -/

namespace Sys2Proof.Encoding

open Sys2Proof.Machine Sys2Proof.Safety

/-! ## Command words -/

/-- A word is its RSVD field above its OP field (R82). -/
theorem eq_append_iff {w : Word} {rsvd : BitVec 62} {op : BitVec 2} :
    w = rsvd ++ op ↔ rsvdField w = rsvd ∧ opField w = op := by
  constructor
  · rintro rfl
    exact ⟨BitVec.extractLsb'_append_eq_left, BitVec.extractLsb'_append_eq_right⟩
  · rintro ⟨rfl, rfl⟩
    exact (BitVec.extractLsb'_append_extractLsb' (w := 62) (len := 2)).symm

/-- Settles O4: the fields of a word determine it, so each branch of the decoder is one word. -/
theorem onlyThreeLegalCommandWords : Obligations.OnlyThreeLegalCommandWords := by
  intro w
  have mulmod : w = 0#64 ↔ rsvdField w = 0#62 ∧ opField w = 0#2 := eq_append_iff (rsvd := 0#62) (op := 0#2)
  have powmod : w = 1#64 ↔ rsvdField w = 0#62 ∧ opField w = 1#2 := eq_append_iff (rsvd := 0#62) (op := 1#2)
  have tag : w = 2#64 ↔ rsvdField w = 0#62 ∧ opField w = 2#2 := eq_append_iff (rsvd := 0#62) (op := 2#2)
  simp only [mulmod, powmod, tag]
  by_cases hrsvd : rsvdField w = 0#62
  · simp [decodeCmd, hrsvd]
  · simp [decodeCmd, hrsvd]

/-- Settles O1: a transaction decodes by its alignment, and each command's word by its fields. -/
theorem decodeOfEncodeIsInstruction : Obligations.DecodeOfEncodeIsInstruction := by
  intro i hwf
  cases i with
  | busRead addr => exact decodeBus_ok_iff.2 ⟨hwf, rfl⟩
  | busWrite addr wdata => exact decodeBus_ok_iff.2 ⟨hwf, rfl⟩
  | mulmod => exact decodeCmd_mulmod_iff.2 ⟨rfl, rfl⟩
  | powmod => exact decodeCmd_powmod_iff.2 ⟨rfl, rfl⟩
  | tag => exact decodeCmd_tag_iff.2 ⟨rfl, rfl⟩

/-! ## Headers and table rows -/

theorem codeOfTableWord_header (h : Header) : codeOfTableWord 8 h.toNat = some (.bus (requestOf h 0#64)) := by
  rw [codeOfTableWord, if_pos (.inr rfl), if_pos h.isLt, BitVec.ofNat_toNat, BitVec.setWidth_eq]

theorem codeOfTableWord_command (w : Word) : codeOfTableWord 64 w.toNat = some (.cmd w) := by
  rw [codeOfTableWord, if_neg (by decide), if_pos rfl, if_pos w.isLt, BitVec.ofNat_toNat, BitVec.setWidth_eq]

theorem decodeTableWord_eq {nbits n : Nat} {c : Code} (h : codeOfTableWord nbits n = some c) :
    decodeTableWord nbits n = (decode c).toOption := by
  cases hd : decode c with
  | ok i => simp [decodeTableWord, h, hd, Except.toOption]
  | error e => simp [decodeTableWord, h, hd, Except.toOption]

theorem decodeTableWord_header (h : Header) : decodeTableWord 8 h.toNat = (decodeBus (requestOf h 0#64)).toOption :=
  decodeTableWord_eq (codeOfTableWord_header h)

theorem decodeTableWord_command (w : Word) : decodeTableWord 64 w.toNat = (decodeCmd w).toOption :=
  decodeTableWord_eq (codeOfTableWord_command w)

theorem aligned_iff {addr : Offset} : aligned addr = true ↔ addr.extractLsb' 0 3 = 0#3 := beq_iff_eq

/-- The low bits of a header are those of its offset (R81). -/
theorem aligned_requestOf_iff {h : Header} {v : Word} :
    aligned (requestOf h v).addr = true ↔ h.extractLsb' 0 3 = 0#3 := by
  rw [aligned_iff, requestOf, BitVec.extractLsb'_extractLsb'_of_le (by decide)]

/-- Settles O3: the decoder checks the offset's alignment and then looks at `we`. -/
theorem headersDecode : Obligations.HeadersDecode := by
  intro h
  rw [decodeTableWord_header]
  split_ifs with hlow hwe
  · rw [decodeBus_ok_iff.2 ⟨aligned_requestOf_iff.2 hlow, rfl⟩, requestOf, if_pos hwe]
    rfl
  · rw [decodeBus_ok_iff.2 ⟨aligned_requestOf_iff.2 hlow, rfl⟩, requestOf, if_neg hwe]
    rfl
  · have hmis : aligned (requestOf h 0#64).addr = false :=
      Bool.eq_false_of_not_eq_true (mt aligned_requestOf_iff.1 hlow)
    rw [decodeBus_error_iff.2 ⟨hmis, rfl⟩]
    rfl

/-- Settles O2: the rules for headers and command words, at the words of R96. -/
theorem specWordsDecode : Obligations.SpecWordsDecode :=
  ⟨headersDecode 0x00#7, headersDecode 0x18#7, headersDecode 0x38#7, headersDecode 0x40#7, headersDecode 0x50#7,
    headersDecode 0x1C#7, decodeTableWord_command 0#64, decodeTableWord_command 1#64, decodeTableWord_command 2#64,
    decodeTableWord_command 3#64, decodeTableWord_command 4#64⟩

/-! ## The decoded instruction at the port -/

/-- A command is the CMD write of the word that decodes to it (R83, R155). -/
theorem exec_of_decodeCmd {w : Word} {i : Instr} (h : decodeCmd w = .ok i) (s : State) :
    exec i s = .next (respond 0#64 (writeCmd w s)) := by
  rw [onlyThreeLegalCommandWords w] at h
  split_ifs at h with hmulmod hpowmod htag <;> cases h
  · rw [hmulmod]; rfl
  · rw [hpowmod]; rfl
  · rw [htag]; rfl

/-- The transaction that presents an instruction's code runs the instruction (R85, R155). -/
theorem present_requestOfCode {c : Code} {i : Instr} (h : decode c = .ok i) (s : State) :
    present (requestOfCode c) s = exec i s := by
  cases c with
  | bus r =>
    have hbus : decodeBus r = .ok i := h
    rw [requestOfCode, present, hbus]
  | cmd w => rw [requestOfCode, present_cmdRequest, exec_of_decodeCmd h]

/-- A command and the CMD write of its word are presented by one transaction. -/
theorem exec_busWrite_cmd_of_decodeCmd {w : Word} {i : Instr} (h : decodeCmd w = .ok i) (s : State) :
    exec (.busWrite (offsetOf .cmd) w) s = exec i s :=
  calc exec (.busWrite (offsetOf .cmd) w) s
    _ = present (cmdRequest w) s :=
      (present_requestOfCode (c := .bus (cmdRequest w)) (decodeBus_ok_iff.2 ⟨aligned_offsetOf .cmd, rfl⟩) s).symm
    _ = exec i s := present_requestOfCode (c := .cmd w) h s

/-- Settles O25. -/
theorem cmdWriteRunsItsCommand : Obligations.CmdWriteRunsItsCommand := fun s =>
  ⟨exec_busWrite_cmd_of_decodeCmd (decodeOfEncodeIsInstruction .mulmod rfl) s,
    exec_busWrite_cmd_of_decodeCmd (decodeOfEncodeIsInstruction .powmod rfl) s,
    exec_busWrite_cmd_of_decodeCmd (decodeOfEncodeIsInstruction .tag rfl) s⟩

/-! ## A table row in the next step -/

theorem toNat_headerOf (r : BusRequest) :
    (headerOf r).toNat = if r.we then 64 + r.addr.toNat else r.addr.toNat := by
  rw [headerOf, BitVec.toNat_append, ← Nat.shiftLeft_add_eq_or_of_lt r.addr.isLt]
  cases r.we <;> simp

/-- A header carries a request but for its write data (R81). -/
theorem requestOf_headerOf (r : BusRequest) (v : Word) : requestOf (headerOf r) v = { r with wdata := v } := by
  have hwe : (headerOf r).getLsbD 6 = r.we := BitVec.getLsbD_append.trans (by simp)
  have haddr : (headerOf r).extractLsb' 0 6 = r.addr := BitVec.extractLsb'_append_eq_right
  rw [requestOf, hwe, haddr]

/-- The table word of a transaction's header (R81, R96). -/
theorem codeOfTableWord_headerOf (r : BusRequest) :
    codeOfTableWord 8 (if r.we then 64 + r.addr.toNat else r.addr.toNat) = some (.bus { r with wdata := 0#64 }) := by
  rw [← toNat_headerOf, codeOfTableWord_header, requestOf_headerOf]

theorem andThen_coreCycle_idle (o : Host.Outcome State Fault Refusal) : andThen o (coreCycle false) = o := by
  cases o <;> rfl

/-- While IDLE the core has no part in the cycle, so the next step is the row's instruction alone (R69, R70). -/
theorem step_withFetchWord {s : State} {nbits n : Nat} {c : Code} {i : Instr} (hidle : s.pend = false)
    (hcode : codeOfTableWord nbits n = some c) (hdecode : decode c = .ok i) :
    step (s.withFetchWord nbits n) = exec i s := by
  have hcycle : step (s.withFetchWord nbits n) = clockCycle (some (requestOfCode c)) s := by
    rw [State.withFetchWord, hcode]
    rfl
  rw [hcycle, clockCycle, hostCycle, present_requestOfCode hdecode, hidle, andThen_coreCycle_idle]

/-- Settles O6: the bits of each row give its instruction's code, which decodes back. -/
theorem tableRowsRunAsNextStep : Obligations.TableRowsRunAsNextStep := by
  intro s hidle
  refine ⟨?mulmod, ?powmod, ?tag, fun addr hlow => ⟨?busRead, ?busWrite⟩⟩
  case mulmod =>
    exact step_withFetchWord hidle (codeOfTableWord_command mulmodWord) (decodeOfEncodeIsInstruction .mulmod rfl)
  case powmod =>
    exact step_withFetchWord hidle (codeOfTableWord_command powmodWord) (decodeOfEncodeIsInstruction .powmod rfl)
  case tag =>
    exact step_withFetchWord hidle (codeOfTableWord_command tagWord) (decodeOfEncodeIsInstruction .tag rfl)
  case busRead =>
    exact step_withFetchWord hidle (codeOfTableWord_headerOf ⟨false, addr, 0#64⟩)
      (decodeOfEncodeIsInstruction (.busRead addr) (aligned_iff.2 hlow))
  case busWrite =>
    exact step_withFetchWord hidle (codeOfTableWord_headerOf ⟨true, addr, 0#64⟩)
      (decodeOfEncodeIsInstruction (.busWrite addr 0#64) (aligned_iff.2 hlow))

end Sys2Proof.Encoding

/-! PROOFS. The modular field (40_modular_field.md): the multiplier's law (R101, R104, R105), the reduction of a base
(R110), the exponentiator's law and its two forms (R111 to R116), and MULMOD and POWMOD from their accept to their
completion (R106, R115). -/

namespace Sys2Proof.ModularField

open Sys2Proof.Machine Sys2Proof.Safety Sys2Proof.StateRules Sys2Proof.Encoding

/-! ## The modulus and the reduction of a base -/

theorem toNat_modulus : Config.modulus.toNat = 2 ^ 64 - 59 := rfl

theorem lt_modulus_iff {a : Word} : a < Config.modulus ↔ a.toNat < 2 ^ 64 - 59 := Iff.rfl

theorem zero_lt_modulus : 0#64 < Config.modulus := by decide

theorem lt_modulus_of_toNat_eq {a : Word} {n : ℕ} (h : a.toNat = n % (2 ^ 64 - 59)) : a < Config.modulus := by
  rw [lt_modulus_iff, h]
  exact Nat.mod_lt _ (by omega)

theorem toNat_canonical (a : Word) : (canonical a).toNat = a.toNat % (2 ^ 64 - 59) := by
  have hmod := toNat_modulus
  unfold canonical
  split_ifs with h <;> bv_omega

theorem canonical_lt (a : Word) : canonical a < Config.modulus :=
  lt_modulus_of_toNat_eq (toNat_canonical a)

/-- Settles O36. -/
theorem canonicalReducesBase : Obligations.CanonicalReducesBase := fun a => by
  refine ⟨toNat_canonical a, fun h => ⟨if_pos h, ?_⟩⟩
  have hlow : 2 ^ 64 - 59 ≤ a.toNat := h
  rw [toNat_canonical]
  omega

/-! ## One iteration of the scan, and k of them (R101, R104) -/

/-- The conditional addition of R101 is the sum modulo P. -/
theorem toNat_conditionalAdd {x y : Word} (hx : x < Config.modulus) (hy : y < Config.modulus) :
    (if Config.modulus - y ≤ x then x - (Config.modulus - y) else x + y).toNat =
      (x.toNat + y.toNat) % (2 ^ 64 - 59) := by
  have hmod := toNat_modulus
  split_ifs <;> bv_omega

section

variable {l : MulLoop}

/-- The doubling is the conditional addition of the multiplicand to itself. -/
theorem toNat_mulIter_a (ha : l.a < Config.modulus) : (mulIter l).a.toNat = l.a.toNat * 2 % (2 ^ 64 - 59) := by
  rw [mulIter, BitVec.two_mul, ← sub_sub_eq_add_sub, toNat_conditionalAdd ha ha, mul_two]

theorem toNat_mulIter_m (ha : l.a < Config.modulus) (hm : l.m < Config.modulus) :
    (mulIter l).m.toNat = (l.m.toNat + l.a.toNat * (l.b.toNat % 2)) % (2 ^ 64 - 59) := by
  have hbit : l.b.getLsbD 0 = decide (l.b.toNat % 2 = 1) := Nat.testBit_zero l.b.toNat
  rw [mulIter, hbit]
  by_cases hodd : l.b.toNat % 2 = 1
  · rw [if_pos (decide_eq_true hodd), toNat_conditionalAdd hm ha, hodd, mul_one]
  · rw [if_neg (by simpa using hodd), Nat.mod_two_ne_one.1 hodd, mul_zero, add_zero,
      Nat.mod_eq_of_lt (lt_modulus_iff.1 hm)]

theorem iterate_mulIter_b (k : Nat) (l : MulLoop) : (mulIter^[k] l).b = l.b >>> k := by
  induction k with
  | zero => simp
  | succ k ih => rw [Function.iterate_succ_apply', mulIter, ih, BitVec.shiftRight_add]

theorem toNat_iterate_mulIter_a (ha : l.a < Config.modulus) (k : Nat) :
    (mulIter^[k] l).a.toNat = l.a.toNat * 2 ^ k % (2 ^ 64 - 59) := by
  induction k with
  | zero => rw [Function.iterate_zero_apply, pow_zero, mul_one, Nat.mod_eq_of_lt (lt_modulus_iff.1 ha)]
  | succ k ih =>
    rw [Function.iterate_succ_apply', toNat_mulIter_a (lt_modulus_of_toNat_eq ih), ih, Nat.mod_mul_mod, pow_succ 2 k,
      mul_assoc]

/-- The loop invariant of the accumulator: the product with the bits of `b` that were scanned. -/
theorem toNat_iterate_mulIter_m (ha : l.a < Config.modulus) (hm : l.m < Config.modulus) (k : Nat) :
    (mulIter^[k] l).m.toNat = (l.m.toNat + l.a.toNat * (l.b.toNat % 2 ^ k)) % (2 ^ 64 - 59) := by
  induction k with
  | zero =>
    rw [Function.iterate_zero_apply, pow_zero, Nat.mod_one, mul_zero, add_zero, Nat.mod_eq_of_lt (lt_modulus_iff.1 hm)]
  | succ k ih =>
    have ha' := toNat_iterate_mulIter_a ha k
    have hb' : (mulIter^[k] l).b.toNat = l.b.toNat / 2 ^ k := by
      rw [iterate_mulIter_b, BitVec.toNat_ushiftRight, Nat.shiftRight_eq_div_pow]
    rw [Function.iterate_succ_apply', toNat_mulIter_m (lt_modulus_of_toNat_eq ha') (lt_modulus_of_toNat_eq ih), ih, ha',
      hb', Nat.mod_pow_succ, mul_add, ← add_assoc, ← mul_assoc]
    exact (Nat.mod_modEq _ _).add ((Nat.mod_modEq _ _).mul_right _)

theorem mulLoop_of_b_eq_zero (h : l.b = 0#64) (n : Nat) : mulLoop n l = l := by
  cases n with
  | zero => rfl
  | succ n => rw [mulLoop, if_pos h]

/-- The end of the scan does not cut the accumulator off: an iteration with `b = 0` leaves it as it is. -/
theorem mulLoop_m (n : Nat) (l : MulLoop) : (mulLoop n l).m = (mulIter^[n] l).m := by
  induction n generalizing l with
  | zero => rfl
  | succ n ih =>
    rw [mulLoop, Function.iterate_succ_apply, ← ih]
    split_ifs with hb
    · rw [mulLoop_of_b_eq_zero (by simp [mulIter, hb])]
      simp [mulIter, hb]
    · rfl

end

/-- R104. -/
theorem toNat_mulmodAlg {a : Word} (ha : a < Config.modulus) (b : Word) :
    (mulmodAlg a b).toNat = a.toNat * b.toNat % (2 ^ 64 - 59) := by
  have law := toNat_iterate_mulIter_m (l := ⟨0#64, a, b⟩) ha zero_lt_modulus 64
  rwa [← mulLoop_m, BitVec.toNat_zero, Nat.zero_add, Nat.mod_eq_of_lt b.isLt] at law

theorem mulmodAlg_lt {a : Word} (ha : a < Config.modulus) (b : Word) : mulmodAlg a b < Config.modulus :=
  lt_modulus_of_toNat_eq (toNat_mulmodAlg ha b)

/-- Settles O32: the invariants of the scan, from an accumulator of 0. -/
theorem multiplierComputesProduct : Obligations.MultiplierComputesProduct := by
  intro a b ha
  refine ⟨toNat_mulmodAlg ha b, fun k => ⟨toNat_iterate_mulIter_a ha k, ?_, iterate_mulIter_b k _⟩⟩
  simpa using toNat_iterate_mulIter_m (l := ⟨0#64, a, b⟩) ha zero_lt_modulus k

/-- At `a = P` an iteration adds and doubles nothing modulo P, and leaves `m` and `a` as they are (R105). -/
theorem mulIter_of_a_eq_modulus {l : MulLoop} (h : l.a = Config.modulus) :
    (mulIter l).m = l.m ∧ (mulIter l).a = Config.modulus := by
  simp [mulIter, h, Config.modulus]

theorem mulLoop_m_of_a_eq_modulus {l : MulLoop} (h : l.a = Config.modulus) (n : Nat) : (mulLoop n l).m = l.m := by
  induction n generalizing l with
  | zero => rfl
  | succ n ih =>
    obtain ⟨hm, ha⟩ := mulIter_of_a_eq_modulus h
    rw [mulLoop]
    split_ifs
    · rfl
    · rw [ih ha, hm]

/-- Settles O33. -/
theorem mulmodAlgOutsideDomain : Obligations.MulmodAlgOutsideDomain :=
  ⟨fun _ => mulLoop_m_of_a_eq_modulus rfl 64, by decide⟩

/-! ## The exponentiator (R111 to R116) -/

theorem bitlen_le_iff {b : Word} {k : Nat} : bitlen b ≤ k ↔ b.toNat < 2 ^ k := by
  unfold bitlen
  split_ifs with hb
  · simp [hb]
  · have hpos : b.toNat ≠ 0 := BitVec.toNat_ne_iff_ne.2 hb
    rw [Nat.succ_le_iff, Nat.log2_lt hpos]

theorem bitlen_sub_one {b : Word} (hb : b ≠ 0#64) : bitlen b - 1 = Nat.log2 b.toNat := by
  rw [bitlen, if_neg hb, Nat.add_sub_cancel]

/-- The recursion is the iteration, for every bound that reaches its base case. -/
theorem powRec_eq_powIter (a : Word) {b : Word} (hb : b ≠ 0#64) {n : Nat} (hn : bitlen b - 1 ≤ n) :
    powRec a n b = powIter a b := by
  rw [powIter, bitlen_sub_one hb]
  exact powRec_eq_powBits a hb (bitlen_le_iff.1 (by omega))

/-- Settles O34. -/
theorem loopsEndAtBitLength : Obligations.LoopsEndAtBitLength := by
  refine ⟨fun l k => ?_, fun a b n hb hn => ?_⟩
  · rw [iterate_mulIter_b, bitlen_le_iff, ← BitVec.toNat_inj, BitVec.toNat_ushiftRight, Nat.shiftRight_eq_div_pow,
      BitVec.toNat_zero, Nat.div_eq_zero_iff_lt (Nat.two_pow_pos k)]
  · rw [powRec_eq_powIter a hb hn, powRec_eq_powIter a hb le_rfl]

/-- Settles O37. -/
theorem powIterationEqualsRecursion : Obligations.PowIterationEqualsRecursion := by
  intro a b hb
  have enough : bitlen b ≤ 64 := bitlen_le_iff.2 b.isLt
  rw [powmodAlg, if_neg hb, powRec_eq_powIter _ hb (by omega)]

/-- One pass of the loop squares, and multiplies by the base once more at a set bit. -/
theorem toNat_powBit {t : Word} (ht : t < Config.modulus) (a b : Word) (j : Nat) :
    (powBit a b j t).toNat = t.toNat * t.toNat * a.toNat ^ (b.toNat / 2 ^ j % 2) % (2 ^ 64 - 59) := by
  have hbit : b.getLsbD j = decide (b.toNat / 2 ^ j % 2 = 1) := Nat.testBit_eq_decide_div_mod_eq
  rw [powBit, hbit]
  by_cases hset : b.toNat / 2 ^ j % 2 = 1
  · rw [if_pos (decide_eq_true hset), toNat_mulmodAlg (mulmodAlg_lt ht t), toNat_mulmodAlg ht, hset, Nat.mod_mul_mod,
      Nat.pow_one]
  · rw [if_neg (by simpa using hset), toNat_mulmodAlg ht, Nat.mod_two_ne_one.1 hset, Nat.pow_zero, Nat.mul_one]

/-- The invariant of the loop: before bit `j - 1` the partial power is that of the exponent's bits from `j` up
(R114). -/
theorem toNat_powBits {a b t : Word} {j : Nat} (ht : t.toNat = a.toNat ^ (b.toNat / 2 ^ j) % (2 ^ 64 - 59)) :
    (powBits a b j t).toNat = a.toNat ^ b.toNat % (2 ^ 64 - 59) := by
  induction j generalizing t with
  | zero => rw [powBits, ht, pow_zero, Nat.div_one]
  | succ j ih =>
    have halves : b.toNat / 2 ^ j = b.toNat / 2 ^ (j + 1) + b.toNat / 2 ^ (j + 1) + b.toNat / 2 ^ j % 2 := by
      rw [pow_succ, ← Nat.div_div_eq_div_mul]
      omega
    have power : a.toNat ^ (b.toNat / 2 ^ j) = a.toNat ^ (b.toNat / 2 ^ (j + 1)) * a.toNat ^ (b.toNat / 2 ^ (j + 1)) *
        a.toNat ^ (b.toNat / 2 ^ j % 2) := by
      rw [← pow_add, ← pow_add, ← halves]
    refine ih ?_
    rw [toNat_powBit (lt_modulus_of_toNat_eq ht), ht, power]
    exact ((Nat.mod_modEq _ _).mul (Nat.mod_modEq _ _)).mul_right _

theorem toNat_powIter {a b : Word} (ha : a < Config.modulus) (hb : b ≠ 0#64) :
    (powIter a b).toNat = a.toNat ^ b.toNat % (2 ^ 64 - 59) := by
  have hpos : b.toNat ≠ 0 := BitVec.toNat_ne_iff_ne.2 hb
  have top : b.toNat / 2 ^ Nat.log2 b.toNat = 1 := by
    refine Nat.div_eq_of_lt_le ?_ ?_
    · simpa using Nat.log2_self_le hpos
    · have := @Nat.lt_log2_self b.toNat
      omega
  rw [powIter, bitlen_sub_one hb]
  refine toNat_powBits ?_
  rw [top, Nat.pow_one, Nat.mod_eq_of_lt (lt_modulus_iff.1 ha)]

/-- R113, with the base reduced or not. -/
theorem powmodAlg_eq_some_iff {a b r : Word} (hb : b ≠ 0#64) :
    powmodAlg a b = some r ↔ r.toNat = a.toNat ^ b.toNat % (2 ^ 64 - 59) := by
  rw [powIterationEqualsRecursion a b hb, Option.some_inj, ← BitVec.toNat_inj, toNat_powIter (canonical_lt a) hb,
    toNat_canonical, ← Nat.pow_mod, eq_comm]

/-- Settles O35. -/
theorem powmodAlgIsPower : Obligations.PowmodAlgIsPower := by
  intro a b hb
  have defined := powIterationEqualsRecursion a b hb
  have value := (powmodAlg_eq_some_iff hb).1 defined
  exact ⟨_, defined, by rw [value, ← Nat.pow_mod], lt_modulus_of_toNat_eq value⟩

/-- R116: a power of a power is the power of the exponents' product. -/
theorem powmodAlg_powmodAlg_eq_some_iff {g x y u k : Word} (hx : x ≠ 0#64) (hy : y ≠ 0#64)
    (hu : powmodAlg g x = some u) :
    powmodAlg u y = some k ↔ k.toNat = g.toNat ^ (x.toNat * y.toNat) % (2 ^ 64 - 59) := by
  rw [powmodAlg_eq_some_iff hy, (powmodAlg_eq_some_iff hx).1 hu, ← Nat.pow_mod, Nat.pow_mul]

/-- Settles O38: the product of the factors commutes, and the product of the exponents. -/
theorem modularOperationsCommute : Obligations.ModularOperationsCommute := by
  refine ⟨fun a b ha hb => ?_, fun g x y hx hy => ?_⟩
  · rw [← BitVec.toNat_inj, toNat_mulmodAlg ha, toNat_mulmodAlg hb, Nat.mul_comm]
  · have hu := powIterationEqualsRecursion g x hx
    have hv := powIterationEqualsRecursion g y hy
    have hk := powIterationEqualsRecursion (powIter (canonical g) x) y hy
    refine ⟨_, _, _, hu, hv, hk, (powmodAlg_powmodAlg_eq_some_iff hy hx hv).2 ?_⟩
    rw [(powmodAlg_powmodAlg_eq_some_iff hx hy hu).1 hk, Nat.mul_comm]

/-- Fermat's little theorem at P (R3, R115). -/
theorem pow_modulus_sub_one_mod {n : ℕ} (h : n % (2 ^ 64 - 59) ≠ 0) : n ^ (2 ^ 64 - 60) % (2 ^ 64 - 59) = 1 := by
  have hprime : Nat.Prime (2 ^ 64 - 59) := Scope.prime_modulus
  have hcoprime : n.Coprime (2 ^ 64 - 59) :=
    ((hprime.coprime_iff_not_dvd).2 fun hdvd => h (Nat.mod_eq_zero_of_dvd hdvd)).symm
  have fermat := Nat.ModEq.pow_totient hcoprime
  rw [Nat.totient_prime hprime] at fermat
  exact fermat

/-- Settles O40. -/
theorem powmodByModulusLessOneIsOne : Obligations.PowmodByModulusLessOneIsOne := by
  intro a ha
  rw [powmodAlg_eq_some_iff (by decide)]
  exact (pow_modulus_sub_one_mod ha).symm

/-! ## MULMOD and POWMOD from accept to completion (R106, R115, R160) -/

section

variable {s : State} {w : Word} {i : Instr}

/-- The state after the accept of an acceptable word, with the response of its CMD write (R151, R156, R157). -/
def accepted (w : Word) (s : State) : State := respond 0#64 (latch (opField w) (bookkeep w s))

theorem exec_eq_accepted (hdecode : decodeCmd w = .ok i) (hidle : s.pend = false) (hacc : Acceptable w s) :
    exec i s = .next (accepted w s) := by
  rw [exec_of_decodeCmd hdecode]
  rcases writeCmd_cases w s with ⟨hbusy, _⟩ | ⟨_, hnot, _⟩ | ⟨_, _, e⟩
  · simp [hidle] at hbusy
  · exact absurd hacc hnot
  · rw [e, accepted]

/-- The completion of the accepted command reads the operands that the accept latched (R160). -/
theorem complete_accepted {r : Word} (hr : commandResult (opField w) s.opa s.opb = some r) :
    complete (accepted w s) = .next (finish r (accepted w s)) :=
  complete_next_iff.2 ⟨r, hr, rfl⟩

theorem exec_mulmod_accepted (hidle : s.pend = false) (ha : s.opa < Config.modulus) (hb : s.opb < Config.modulus) :
    exec .mulmod s = .next (accepted mulmodWord s) :=
  exec_eq_accepted (decodeOfEncodeIsInstruction .mulmod rfl) hidle ⟨rfl, inDomain_mulmod_iff.2 ⟨ha, hb⟩⟩

theorem exec_powmod_accepted (hidle : s.pend = false) (hb : s.opb ≠ 0#64) :
    exec .powmod s = .next (accepted powmodWord s) :=
  exec_eq_accepted (decodeOfEncodeIsInstruction .powmod rfl) hidle ⟨rfl, inDomain_powmod_iff.2 hb⟩

end

/-- Settles O21. -/
theorem mulmodIsAccepted : Obligations.MulmodIsAccepted := fun _ => exec_mulmod_accepted

/-- Settles O23. -/
theorem powmodIsAccepted : Obligations.PowmodIsAccepted := fun _ => exec_powmod_accepted

/-- Settles O22: the operand check fails, and the error completion follows the bookkeeping. -/
theorem operandsOutsideDomainAreErrors : Obligations.OperandsOutsideDomainAreErrors := by
  intro s hidle
  refine ⟨fun hrange => ?_, fun hzero => ?_⟩
  · have check : outOfRange (bookkeep mulmodWord s) = true :=
      (Bool.or_eq_true _ _).mpr (hrange.imp decide_eq_true decide_eq_true)
    rw [exec, execMulmod, issue_idle hidle, acceptMulmod, if_pos check]
    rfl
  · have check : zeroExponent (bookkeep powmodWord s) = true := beq_iff_eq.2 hzero
    rw [exec, execPowmod, issue_idle hidle, acceptPowmod, if_pos check]
    rfl

/-- Settles O28. -/
theorem completionStopsOutsideDomain : Obligations.CompletionStopsOutsideDomain := by
  refine fun s => ⟨fun hop => ?_, fun hop hb => ?_⟩
  · rw [complete, hop]
    rfl
  · have undefined : powmodAlg s.a s.b = none := if_pos hb
    rw [complete, hop]
    simp [completePowmod, undefined]

/-- Settles O29: the accept latches OPA and OPB, and the multiplier's law gives their product. -/
theorem mulmodComputesProduct : Obligations.MulmodComputesProduct := fun s hidle ha hb =>
  ⟨_, _, exec_mulmod_accepted hidle ha hb, rfl, complete_accepted rfl, toNat_mulmodAlg ha s.opb,
    rfl, rfl, rfl, rfl, rfl, rfl, rfl, rfl, rfl⟩

/-- Settles O30: the accept latches OPA and OPB, and the exponentiator's law gives their power. -/
theorem powmodComputesPower : Obligations.PowmodComputesPower := by
  intro s hidle hb
  obtain ⟨r, hr, hvalue, _⟩ := powmodAlgIsPower s.opa s.opb hb
  exact ⟨_, _, exec_powmod_accepted hidle hb, rfl, complete_accepted hr, hvalue,
    rfl, rfl, rfl, rfl, rfl, rfl, rfl, rfl, rfl⟩

end Sys2Proof.ModularField

/-! PROOFS. The compression tag (41_compression_tag.md): the input words (R131, R136), `tag_alg` against its pseudocode
with the tables written out (R132 to R140), and TAG from its accept to its completion (R139, R156, R157, R160). -/

namespace Sys2Proof.CompressionTag

open Sys2Proof.Machine Sys2Proof.Safety Sys2Proof.Encoding Sys2Proof.ModularField

/-! ## The input words -/

section

variable {x y : Word}

theorem inputWord_mod_four (j : ℕ) : inputWord x y (j % 4) = inputWord x y j := by
  rw [inputWord, Nat.mod_mod, ← inputWord]

theorem inputWord_four_mul_add (k j : ℕ) : inputWord x y (4 * k + j) = inputWord x y j := by
  rw [← inputWord_mod_four, Nat.mul_add_mod, inputWord_mod_four]

/-- Settles O41. -/
theorem inputWordsRepeat : Obligations.InputWordsRepeat := fun _ _ k =>
  ⟨inputWord_four_mul_add k 0, inputWord_four_mul_add k 1, inputWord_four_mul_add k 2, inputWord_four_mul_add k 3,
    (inputWord_mod_four (wordIndex k)).symm⟩

/-! ## The tables and the rotation, as the pseudocode writes them -/

/-- The four halves of the operands, which R131 repeats four times. -/
def halves (x y : Word) : List Half := [high x, low x, high y, low y]

theorem inputWord_eq_getD {j : ℕ} (hj : j < 16) :
    inputWord x y j = (halves x y ++ halves x y ++ halves x y ++ halves x y).getD j 0#32 := by
  interval_cases j <;> rfl

theorem wordIndex_lt (i : ℕ) : wordIndex i < 16 := by
  unfold wordIndex
  split_ifs <;> omega

/-- The round constants as one table of 64 entries (R133). -/
def roundConstants : List Half := roundConstants0 ++ roundConstants1 ++ roundConstants2 ++ roundConstants3

theorem roundConstant_eq_getD : ∀ i < 64, roundConstant i = roundConstants.getD i 0#32 := by decide

theorem rotationAmount_lt : ∀ i < 64, rotationAmount i < 32 := by decide

theorem rotl32_eq_rotateLeft (v : Half) {n : ℕ} (hn : n < 32) : rotl32 v n = v.rotateLeft n := by
  rw [rotl32, BitVec.rotateLeft_def, Nat.mod_eq_of_lt hn]

/-! ## The loop over a quadruple -/

/-- The working registers as the quadruple (A, B, C, D) of R140. -/
def quadruple (r : TagRegs) : Half × Half × Half × Half := (r.a, r.b, r.c, r.d)

/-- Round i in the terms of R140: the tables by position, and the rotation of the library. -/
theorem tagRound_eq {i : ℕ} (hi : i < 64) (r : TagRegs) :
    tagRound x y i r =
      ⟨r.d, r.b + (r.a + roundFunction i r.b r.c r.d + roundConstants.getD i 0#32 +
        (halves x y ++ halves x y ++ halves x y ++ halves x y).getD (wordIndex i) 0#32).rotateLeft (rotationAmount i),
        r.b, r.c⟩ := by
  rw [tagRound, rotl32_eq_rotateLeft _ (rotationAmount_lt i hi), roundConstant_eq_getD i hi,
    inputWord_eq_getD (wordIndex_lt i)]

variable {f : Half × Half × Half × Half → ℕ → Half × Half × Half × Half}

/-- A loop body that agrees with the round at every index of the loop takes the quadruple through the rounds. -/
theorem foldl_quadruple (n i : ℕ) (r : TagRegs)
    (hf : ∀ j < i + n, ∀ q, f (quadruple q) j = quadruple (tagRound x y j q)) :
    (List.range' i n).foldl f (quadruple r) = quadruple (tagRounds x y n i r) := by
  induction n generalizing i r with
  | zero => rfl
  | succ n ih =>
    rw [List.range'_succ, List.foldl_cons, hf i (by omega), ih (i + 1) _ fun j hj => hf j (by omega), tagRounds]

end

/-- Settles O42: the two bodies agree at each of the 64 indices, so the two loops do. -/
theorem tagAlgIsItsPseudocode : Obligations.TagAlgIsItsPseudocode := by
  refine ⟨fun i hi => ⟨roundConstant_eq_getD i hi, rfl⟩, fun x y => ?_⟩
  intro w r
  have loop : r = quadruple (tagRounds x y 64 0 tagInit) := by
    unfold r
    rw [List.range_eq_range']
    exact foldl_quadruple 64 0 tagInit fun i hi q => congrArg quadruple (tagRound_eq (by omega) q).symm
  rw [loop]
  rfl

/-! ## TAG from accept to completion -/

/-- TAG has no operand check (R139), so an IDLE unit accepts it for all operands. -/
theorem exec_tag_accepted {s : State} (hidle : s.pend = false) : exec .tag s = .next (accepted tagWord s) :=
  exec_eq_accepted (decodeOfEncodeIsInstruction .tag rfl) hidle ⟨rfl, .inr (.inr rfl)⟩

/-- Settles O24. -/
theorem tagIsAccepted : Obligations.TagIsAccepted := fun _ => exec_tag_accepted

/-- Settles O31: the accept latches OPA and OPB, and the completion reads the latch. -/
theorem tagComputesTag : Obligations.TagComputesTag := fun _ hidle =>
  ⟨_, _, exec_tag_accepted hidle, rfl, complete_accepted rfl, rfl, rfl, rfl, rfl, rfl, rfl, rfl, rfl, rfl, rfl⟩

end Sys2Proof.CompressionTag

/-! PROOFS. Register access (42_register_access.md): the writes of the register slots and of STATUS (R152, R153, R158,
R159, R161), the outcome of a CMD write (R154 to R157, R182, R183, R186), the latch of a command in flight (R157), and
that the machine never stops (R160, R162, R196). -/

namespace Sys2Proof.RegisterAccess

open Sys2Proof.Machine Sys2Proof.Safety Sys2Proof.StateRules Sys2Proof.MemoryRules

/-! ## Writes of the register slots and of STATUS -/

/-- R151: an aligned write of a slot has the slot's effect, with response 0. -/
theorem exec_busWrite_offsetOf (k : Slot) (v : Word) (s : State) :
    exec (.busWrite (offsetOf k) v) s = .next (respond 0#64 (writeSlot k v s)) := by
  rw [exec, execBusWrite, aligned_offsetOf, if_pos rfl, slotOf_offsetOf]

/-- Settles O15. -/
theorem busWriteToRegisterSlots : Obligations.BusWriteToRegisterSlots := fun s v =>
  ⟨exec_busWrite_offsetOf .opa v s, exec_busWrite_offsetOf .opb v s, exec_busWrite_offsetOf .ctrl v s, rfl,
    exec_busWrite_offsetOf .result v s, exec_busWrite_offsetOf .modulus v s, exec_busWrite_offsetOf .reserved v s⟩

/-- A flag that is kept unless a 1 is written to its bit (R158). -/
theorem and_not_eq_ite (flag bit : Bool) : (flag && !bit) = if bit then false else flag := by
  cases bit <;> simp

/-- Settles O16. -/
theorem statusWriteClearsOnes : Obligations.StatusWriteClearsOnes := by
  intro s v
  simp only [← and_not_eq_ite]
  exact exec_busWrite_offsetOf .status v s

/-! ## The outcome of a CMD write -/

/-- R86: of the four values of OP only 3 is no command. -/
theorem decodeCmd_illegal_iff {w : Word} :
    decodeCmd w = .error .illegalCmd ↔ rsvdField w ≠ 0#62 ∨ opField w = 3#2 := by
  have four : ∀ op : BitVec 2, op = 3#2 ↔ op ≠ 0#2 ∧ op ≠ 1#2 ∧ op ≠ 2#2 := by decide
  rw [four]
  unfold decodeCmd
  split_ifs <;> simp_all

theorem outOfRange_eq_true {s : State} :
    outOfRange s = true ↔ Config.modulus ≤ s.opa ∨ Config.modulus ≤ s.opb := by
  rw [outOfRange, Bool.or_eq_true, decide_eq_true_iff, decide_eq_true_iff]

/-- R154 to R156, R186: the order in which a CMD write's outcome is found, for every word and state. -/
theorem writeCmd_eq_ite (w : Word) (s : State) :
    writeCmd w s =
      if s.pend = true then overrun s
      else if rsvdField w ≠ 0#62 ∨ opField w = 3#2 then raise .illegalCmd (bookkeep w s)
      else if opField w = 0#2 ∧ (Config.modulus ≤ s.opa ∨ Config.modulus ≤ s.opb) then
        raise .operandRange (bookkeep w s)
      else if opField w = 1#2 ∧ s.opb = 0#64 then raise .expZero (bookkeep w s)
      else latch (opField w) (bookkeep w s) := by
  cases hp : s.pend with
  | true => exact issue_busy hp
  | false =>
    rw [writeCmd, issue_idle hp, if_neg Bool.false_ne_true]
    rcases acceptWord_cases w (bookkeep w s) with ⟨hd, e⟩ | ⟨hd, e⟩ | ⟨hd, e⟩ | ⟨hd, e⟩ <;> rw [e]
    · rw [if_pos (decodeCmd_illegal_iff.1 hd)]
    · obtain ⟨hr, ho⟩ := decodeCmd_mulmod_iff.1 hd
      simp [hr, ho, acceptMulmod, outOfRange_eq_true]
    · obtain ⟨hr, ho⟩ := decodeCmd_powmod_iff.1 hd
      simp [hr, ho, acceptPowmod, zeroExponent]
    · obtain ⟨hr, ho⟩ := decodeCmd_tag_iff.1 hd
      simp [hr, ho, acceptTag]

/-- Settles O19: in each outcome LASTOP is the word's OP, a constant where an operand check has failed. -/
theorem cmdWriteOutcome : Obligations.CmdWriteOutcome := by
  intro w s
  refine (exec_busWrite_offsetOf .cmd w s).trans (congrArg Host.Outcome.next ?_)
  rw [writeSlot, writeCmd_eq_ite, rsvdField, opField]
  split_ifs with hbusy hillegal hrange hzero
  · rfl
  · rfl
  · rw [← hrange.1]; rfl
  · rw [← hzero.1]; rfl
  · rfl

/-- Settles O20: each of the three commands is a CMD write, and a CMD write while BUSY is an overrun. -/
theorem commandWhileBusyOverruns : Obligations.CommandWhileBusyOverruns := by
  intro s w hbusy
  have hoverrun (v : Word) : writeCmd v s = overrun s := issue_busy hbusy
  have hwrite : exec (.busWrite (offsetOf .cmd) w) s = .next (respond 0#64 (overrun s)) := by
    rw [exec_busWrite_offsetOf, writeSlot, hoverrun]
  have hcommand {i : Instr} (hi : i = .mulmod ∨ i = .powmod ∨ i = .tag) :
      exec i s = .next (respond 0#64 (overrun s)) := by
    obtain ⟨v, hv⟩ := exec_command hi s
    rw [hv, hoverrun]
  exact ⟨hwrite, hcommand (.inl rfl), hcommand (.inr (.inl rfl)), hcommand (.inr (.inr rfl)), rfl⟩

/-! ## The command in flight -/

/-- Settles O51: a run of transactions alone, with no event after them. -/
theorem latchIsFixedWhileBusy : Obligations.LatchIsFixedWhileBusy := by
  intro rs s t hbusy hrun
  rw [← List.append_nil (rs.map Event.transaction)] at hrun
  obtain ⟨u, hsame, hnil⟩ := eventRun_transactions hbusy hrun
  cases hnil
  exact ⟨hsame.pend, hsame.op, hsame.a, hsame.b, hsame.lastop, hsame.result⟩

section

variable {s t u : State}

/-- R160: a command in flight has passed its accept's check. -/
theorem inDomain_of_stateInv (h : StateInv s) (hbusy : s.pend = true) : inDomain s.op s.a s.b := by
  obtain ⟨_, hop | hop | hop⟩ := h.busyOp hbusy
  · exact .inl ⟨hop, h.mulmodDomain hbusy hop⟩
  · exact .inr (.inl ⟨hop, h.powmodDomain hbusy hop⟩)
  · exact .inr (.inr hop)

/-! ## The machine never stops -/

/-- R160, R196: the completion of a command inside its domain has a result to write. -/
theorem exists_complete_next (h : StateInv s) (hbusy : s.pend = true) : ∃ t, complete s = .next t := by
  obtain ⟨r, hr⟩ := Scope.commandResult_of_inDomain (inDomain_of_stateInv h hbusy)
  exact ⟨_, complete_next_iff.2 ⟨r, hr, rfl⟩⟩

theorem exists_coreCycle_next {inFlight : Bool} (h : StateInv s) (hbusy : inFlight = true → s.pend = true) :
    ∃ t, coreCycle inFlight s = .next t := by
  unfold coreCycle
  split_ifs with hflight
  · exact exists_complete_next h (hbusy hflight)
  · exact ⟨_, rfl⟩
  · exact ⟨_, rfl⟩

theorem stateInv_hostCycle {req : Option BusRequest} (h : StateInv s) (hhost : hostCycle req s = .next u) :
    StateInv u := by
  cases req with
  | none =>
    obtain rfl : noResponse s = u := Host.Outcome.next.inj hhost
    exact { h with }
  | some r => exact stateInv_present h hhost

/-- The host's part always has a next state, and leaves the core's part one. -/
theorem exists_clockCycle_next (req : Option BusRequest) (h : StateInv s) : ∃ t, clockCycle req s = .next t := by
  obtain ⟨u, hu⟩ := hostCycle_next req s
  obtain ⟨t, ht⟩ := exists_coreCycle_next (stateInv_hostCycle h hu) (hostCycle_pend hu)
  exact ⟨t, clockCycle_next.2 ⟨u, hu, ht⟩⟩

end

/-- Settles O47: a step is a reset or a clock cycle on a port sample. -/
theorem stepNeverStopsUnderInvariants : Obligations.StepNeverStopsUnderInvariants := by
  intro s h
  unfold step
  split
  · exact exists_clockCycle_next none h
  · next p rest _ =>
    split_ifs
    · exact ⟨_, rfl⟩
    · exact exists_clockCycle_next (s := { s with inbox := rest }) p.req { h with }

section

variable {s t : State}

/-- R33, R44 item 6: RESULT changes to 0, or to the result of the command in flight, which is inside its domain. -/
theorem resultLegal_step (h : StateInv s) (hlegal : ResultLegal s) (hstep : step s = .next t) : ResultLegal t := by
  rcases step_parts hstep with ⟨_, v, rfl⟩ | ⟨u, hhost, hcore⟩
  · exact .inl rfl
  · have hu : ResultLegal u := by rwa [ResultLegal, hhost.result]
    rcases coreCycle_cases hcore with ⟨_, rfl⟩ | ⟨hbusy, _, hc⟩ | ⟨_, _, rfl⟩
    · exact hu
    · exact .inr ⟨u.op, u.a, u.b, inDomain_of_stateInv (hhost.stateInv h) (hhost.busy hbusy).pend,
        (completes_of_complete hc).result⟩
    · exact hu

/-- A predicate that gives a next state and holds in it gives a run of every length, at whose end it holds. -/
theorem exists_runs {P : State → Prop} (hstep : ∀ s, P s → ∃ t, step s = .next t ∧ P t) (n : Nat) (h : P s) :
    ∃ t, Runs n s t ∧ P t := by
  induction n generalizing s with
  | zero => exact ⟨s, .zero s, h⟩
  | succ n ih =>
    obtain ⟨t, hst, ht⟩ := hstep s h
    obtain ⟨u, hrun, hu⟩ := ih ht
    exact ⟨u, .succ n s t u hst hrun, hu⟩

end

/-- Settles O48: the invariants hold at reset, give every step a next state, and hold in it. -/
theorem runsFromResetNeverStop : Obligations.RunsFromResetNeverStop := by
  refine fun ps n => exists_runs (P := fun s => StateInv s ∧ ResultLegal s) ?_ n (invariantsHoldAtReset ps)
  rintro s ⟨hinv, hlegal⟩
  obtain ⟨t, hstep⟩ := stepNeverStopsUnderInvariants s hinv
  exact ⟨t, hstep, stepKeepsInvariants s t hinv hstep, resultLegal_step hinv hlegal hstep⟩

end Sys2Proof.RegisterAccess

/-! PROOFS. The error responses and the interrupt (60_exceptions.md): the error completion and its acknowledgement (R181,
R183, R188), and the level of `irq` (R185). -/

namespace Sys2Proof.Exceptions

open Sys2Proof.Machine Sys2Proof.Safety Sys2Proof.StateRules Sys2Proof.RegisterAccess

section

variable {s t : State} {r : BusRequest} {w : Word}

/-! ## The interrupt output after each operation (R42, R185) -/

@[simp] theorem irq_respond (d : Word) (s : State) : irq (respond d s) = irq s := rfl

@[simp] theorem irq_overrun (s : State) : irq (overrun s) = irq s := rfl

@[simp] theorem irq_writeStatus (v : Word) (s : State) : irq (writeStatus v s) = (irq s && !v.getLsbD 1) :=
  (Bool.and_assoc _ _ _).symm

@[simp] theorem irq_writeCtrl (v : Word) (s : State) : irq (writeCtrl v s) = (v.getLsbD 0 && s.done) := rfl

@[simp] theorem irq_bookkeep (w : Word) (s : State) : irq (bookkeep w s) = false := Bool.and_false _

@[simp] theorem irq_latch (k : BitVec 2) (s : State) : irq (latch k s) = irq s := rfl

@[simp] theorem irq_raise (c : ErrCode) (s : State) : irq (raise c s) = s.ie := Bool.and_true _

@[simp] theorem irq_finish (v : Word) (s : State) : irq (finish v s) = s.ie := Bool.and_true _

@[simp] theorem irq_applyReset (s : State) : irq (applyReset s) = false := rfl

theorem ie_of_irq (h : irq s = true) : s.ie = true := (Bool.and_eq_true_iff.1 h).1

theorem done_of_irq (h : irq s = true) : s.done = true := (Bool.and_eq_true_iff.1 h).2

/-! ## What a transaction and the core do to the interrupt output -/

/-- R183: of the CMD writes only a rejected one raises `irq`. -/
theorem writeCmd_irq_rises (hs : irq s = false) (ht : irq (writeCmd w s) = true) :
    s.pend = false ∧ ¬ Acceptable w s := by
  rcases writeCmd_cases w s with ⟨_, e⟩ | ⟨hidle, hrej, _⟩ | ⟨_, _, e⟩
  · simp [e, hs] at ht
  · exact ⟨hidle, hrej⟩
  · simp [e] at ht

/-- R156: of the CMD writes only an accepted one lowers `irq`; a rejected one sets DONE again in the same step. -/
theorem writeCmd_irq_falls (hs : irq s = true) (ht : irq (writeCmd w s) = false) :
    s.pend = false ∧ Acceptable w s := by
  rcases writeCmd_cases w s with ⟨_, e⟩ | ⟨_, _, _, e⟩ | ⟨hidle, hacc, _⟩
  · simp [e, hs] at ht
  · simp [e, ie_of_irq hs] at ht
  · exact ⟨hidle, hacc⟩

/-- R185: a transaction raises `irq` only as a rejected CMD write or a CTRL write that sets IE. -/
theorem present_irq_rises (h : present r s = .next t) (hs : irq s = false) (ht : irq t = true) :
    (WritesSlot .cmd r ∧ s.pend = false ∧ ¬ Acceptable r.wdata s) ∨
    (WritesSlot .ctrl r ∧ r.wdata.getLsbD 0 = true) := by
  rcases present_effect h with ⟨_, _, _, rfl⟩ | ⟨_, rfl⟩ | ⟨_, rfl⟩ | ⟨_, rfl⟩ | ⟨hw, rfl⟩ | ⟨hw, rfl⟩
  case inr.inr.inr.inl => simp [hs] at ht
  case inr.inr.inr.inr.inl => exact .inr ⟨hw, ie_of_irq ht⟩
  case inr.inr.inr.inr.inr => exact .inl ⟨hw, writeCmd_irq_rises hs ht⟩
  all_goals exact absurd (hs.symm.trans ht) Bool.false_ne_true

/-- R185: a transaction lowers `irq` only as a STATUS write that clears DONE, a CTRL write that clears IE, or an accepted
CMD write. -/
theorem present_irq_falls (h : present r s = .next t) (hs : irq s = true) (ht : irq t = false) :
    (WritesSlot .status r ∧ r.wdata.getLsbD 1 = true) ∨
    (WritesSlot .ctrl r ∧ r.wdata.getLsbD 0 = false) ∨
    (WritesSlot .cmd r ∧ s.pend = false ∧ Acceptable r.wdata s) := by
  rcases present_effect h with ⟨_, _, _, rfl⟩ | ⟨_, rfl⟩ | ⟨_, rfl⟩ | ⟨hw, rfl⟩ | ⟨hw, rfl⟩ | ⟨hw, rfl⟩
  case inr.inr.inr.inl => exact .inl ⟨hw, by simpa [hs] using ht⟩
  case inr.inr.inr.inr.inl => exact .inr (.inl ⟨hw, by simpa [done_of_irq hs] using ht⟩)
  case inr.inr.inr.inr.inr => exact .inr (.inr ⟨hw, writeCmd_irq_falls hs ht⟩)
  all_goals exact absurd (ht.symm.trans hs) Bool.false_ne_true

/-- The core's part of a cycle leaves `irq` as it is, or ends the command in flight and `irq` is then IE (R160). -/
theorem coreCycle_irq {inFlight : Bool} (h : coreCycle inFlight s = .next t) :
    irq t = irq s ∨ (inFlight = true ∧ t.pend = false ∧ irq t = s.ie) := by
  rcases coreCycle_cases h with ⟨_, rfl⟩ | ⟨hbusy, _, hc⟩ | ⟨_, _, rfl⟩
  · exact .inl rfl
  · obtain ⟨v, _, rfl⟩ := complete_next_iff.1 hc
    exact .inr ⟨hbusy, rfl, irq_finish v s⟩
  · exact .inl rfl

/-- The core's part of a cycle never lowers `irq`. -/
theorem coreCycle_irq_of_irq {inFlight : Bool} (h : coreCycle inFlight s = .next t) (hs : irq s = true) :
    irq t = true := by
  rcases coreCycle_irq h with e | ⟨_, _, e⟩
  · exact e.trans hs
  · exact e.trans (ie_of_irq hs)

end

/-- Settles O54: `irq` rises by the core only as a command ends, and falls by the host or a reset alone. -/
theorem interruptChangesOnlyAsStated : Obligations.InterruptChangesOnlyAsStated := by
  intro s t hstep
  rcases step_parts hstep with ⟨hreset, _, rfl⟩ | ⟨u, hhost, hcore⟩
  · exact ⟨fun _ ht => by simp at ht, fun _ _ => .inl hreset⟩
  refine ⟨fun hs ht => ?rises, fun hs ht => ?falls⟩
  case rises =>
    rcases coreCycle_irq hcore with e | ⟨hbusy, hend, _⟩
    · have hu : irq u = true := e.symm.trans ht
      cases hhost with
      | quiet => exact absurd (hs.symm.trans hu) Bool.false_ne_true
      | transaction rest r _ hpres hp =>
        exact .inr ((present_irq_rises (s := { s with inbox := rest }) hp hs hu).imp (⟨r, hpres, ·⟩) (⟨r, hpres, ·⟩))
    · exact .inl ⟨hbusy, hend⟩
  case falls =>
    have hu : irq u = false := Bool.eq_false_of_not_eq_true fun hu =>
      Bool.false_ne_true (ht.symm.trans (coreCycle_irq_of_irq hcore hu))
    cases hhost with
    | quiet => exact absurd (hu.symm.trans hs) Bool.false_ne_true
    | transaction rest r _ hpres hp =>
      exact .inr ((present_irq_falls (s := { s with inbox := rest }) hp hs hu).imp (⟨r, hpres, ·⟩)
        (.imp (⟨r, hpres, ·⟩) (⟨r, hpres, ·⟩)))

/-! ## The error completion and its acknowledgement -/

/-- R188: bits 1 and 2 of 0x6 clear DONE, ERR and ERRCODE; bit 3 is 0 and keeps OVR (R158). -/
theorem acknowledge_eq (s : State) : acknowledge s = { s with done := false, err := false, errcode := 0#4 } := by
  simp [acknowledge, writeStatus]

/-- Bit 3 alone clears OVR alone (R158). -/
theorem writeStatus_eight (s : State) : writeStatus 0x8#64 s = { s with ovr := false } := by
  simp [writeStatus]

/-- Settles O26. -/
theorem errorCompletionAndAcknowledgement : Obligations.ErrorCompletionAndAcknowledgement := by
  intro s
  refine ⟨rfl, rfl, rfl, acknowledge_eq s, exec_busWrite_offsetOf .status 0x6#64 s, ?_⟩
  refine (exec_busWrite_offsetOf .status 0x8#64 s).trans ?_
  rw [writeSlot, writeStatus_eight, respond]

end Sys2Proof.Exceptions

/-! PROOFS. Reset and hazards (70_reset_and_hazards.md): a cycle with `rst = 1` (R201, R202), an idle cycle (R200, R203),
and a CMD write in the cycle after an accept (R214). -/

namespace Sys2Proof.ResetAndHazards

open Sys2Proof.Machine Sys2Proof.Safety Sys2Proof.StateRules

section

variable {s t : State} {r : BusRequest} {req : Option BusRequest} {rest : List PortCycle}

/-! ## One step, by the port sample it uses -/

theorem step_of_no_sample (h : s.inbox = []) : step s = clockCycle none s := by
  simp [step, h]

theorem step_of_rst (h : s.inbox = ⟨true, req⟩ :: rest) : step s = .next (applyReset { s with inbox := rest }) := by
  simp [step, h]

theorem step_of_sample (h : s.inbox = ⟨false, req⟩ :: rest) : step s = clockCycle req { s with inbox := rest } := by
  simp [step, h]

/-- While IDLE a cycle is the host's part alone, which is the response 0 where nothing is presented (R200). -/
theorem clockCycle_none_idle (hidle : s.pend = false) : clockCycle none s = .next (noResponse s) := by
  rw [clockCycle, hidle, Encoding.andThen_coreCycle_idle, hostCycle]

/-! ## A CMD write while BUSY -/

/-- R154, R182: a CMD write while BUSY is an overrun, for every word. -/
theorem present_overruns (hbusy : s.pend = true) (hw : WritesSlot .cmd r) :
    present r s = .next (respond 0#64 (overrun s)) := by
  obtain ⟨hwe, haligned, hslot⟩ := hw
  rcases present_cases r s with ⟨h, _⟩ | ⟨_, h, _⟩ | ⟨_, _, h⟩
  · simp [haligned] at h
  · simp [hwe] at h
  · rw [h, hslot, writeSlot, writeCmd, issue_busy hbusy]

/-- The core's part of a cycle leaves LASTOP and the latch as they are, at a completion too (R71, R160). -/
theorem coreCycle_latch {inFlight : Bool} (h : coreCycle inFlight s = .next t) :
    t.lastop = s.lastop ∧ t.op = s.op ∧ t.a = s.a ∧ t.b = s.b := by
  rcases coreCycle_cases h with ⟨_, rfl⟩ | ⟨_, _, hc⟩ | ⟨_, _, rfl⟩
  · exact ⟨rfl, rfl, rfl, rfl⟩
  · obtain ⟨_, _, rfl⟩ := complete_next_iff.1 hc
    exact ⟨rfl, rfl, rfl, rfl⟩
  · exact ⟨rfl, rfl, rfl, rfl⟩

/-- R70: the CMD write comes before the core's part of its cycle, so it overruns even where that part completes the
command. -/
theorem clockCycle_overruns (hbusy : s.pend = true) (hw : WritesSlot .cmd r) (h : clockCycle (some r) s = .next t) :
    t.ovr = true ∧ t.lastop = s.lastop ∧ t.op = s.op ∧ t.a = s.a ∧ t.b = s.b := by
  obtain ⟨u, hhost, hcore⟩ := clockCycle_next.1 h
  obtain rfl := Host.Outcome.next.inj ((present_overruns hbusy hw).symm.trans hhost)
  have hlatch := coreCycle_latch hcore
  exact ⟨coreCycle_ovr hcore, hlatch⟩

theorem step_overruns (hbusy : s.pend = true) (hp : Presents s r) (hw : WritesSlot .cmd r) (h : step s = .next t) :
    t.ovr = true ∧ t.lastop = s.lastop ∧ t.op = s.op ∧ t.a = s.a ∧ t.b = s.b := by
  obtain ⟨rest, hinbox⟩ := hp
  rw [step_of_sample hinbox] at h
  exact clockCycle_overruns (s := { s with inbox := rest }) hbusy hw h

/-- The accept of a command leads to a state of the invariants, whatever state the host found IDLE (R156, R157). -/
theorem stateInv_of_step_accepts (hidle : s.pend = false) (h : step s = .next t) (hbusy : t.pend = true) :
    StateInv t := by
  obtain ⟨w, rest, hacc, rfl⟩ := Scope.step_accepts hidle h hbusy
  exact { stateInv_latch (s := { s with inbox := rest }) hacc with }

end

/-! ## The obligations -/

/-- Settles O7: the step is the reset, whose values are those of R43 (`resetValues`). -/
theorem resetCycleLeavesResetState : Obligations.ResetCycleLeavesResetState := by
  intro s req rest hinbox
  obtain ⟨hopa, hopb, _, hstatus, hresult, hctrl, hmodulus, hreserved, hirq, hpend, hop, ha, hb⟩ := resetValues
  exact ⟨_, step_of_rst hinbox, hopa, hopb, hresult, hstatus, hctrl, hmodulus, hreserved, hpend, hop, ha, hb, hirq,
    rfl, rfl⟩

/-- Settles O9. -/
theorem idleCycleDoesNothing : Obligations.IdleCycleDoesNothing := fun s hidle =>
  ⟨fun h => (step_of_no_sample h).trans (clockCycle_none_idle hidle),
    fun rest h => (step_of_sample h).trans (clockCycle_none_idle (s := { s with inbox := rest }) hidle)⟩

/-- Settles O58: the accepted command is inside its domain, so the next step does not stop at its completion. -/
theorem nextCycleCmdWriteOverruns : Obligations.NextCycleCmdWriteOverruns := by
  intro s t r hidle hstep hbusy hpresents hwrites
  obtain ⟨u, hnext⟩ := RegisterAccess.stepNeverStopsUnderInvariants t (stateInv_of_step_accepts hidle hstep hbusy)
  exact ⟨u, hnext, step_overruns hbusy hpresents hwrites hnext⟩

end Sys2Proof.ResetAndHazards
